-- ==== Sys2Proof/Word.lean ====
section
/-!
DEFINITION. The widths of the values the block moves (00_scope.md R10 to R12, 20_memory.md R88).
Signed readings are `BitVec.toInt` (the spec's `s32`, `s16`), unsigned ones `BitVec.toNat`, and the
reductions `u32`, `u16` are `BitVec.ofInt`.
-/

namespace Sys2Proof

/-- A host register pattern, a snapshot field, a phase (30_encoding.md R118). -/
abbrev Word := BitVec 32

/-- A byte of the output loop in its byte view (20_memory.md R85). -/
abbrev Byte := BitVec 8

/-- One PCM sample, a word of the output loop (20_memory.md R82). -/
abbrev Half := BitVec 16

/-- A byte offset into the 256-byte host register space (20_memory.md R81). -/
abbrev Offset := BitVec 8

end Sys2Proof
end

