-- ==== Sys2Proof/Config.lean ====
section
/-!
DEFINITION. The two implementation parameters and the fixed constants of 00_scope.md R7 and R8.
-/

namespace Sys2Proof

/-- The parameters a machine is built with (00_scope.md R7; 93_implementation_defined.md P1, P2).
Held in State and written by no step (entry 4). -/
structure Config where
  /-- `SAMPLE_RATE`, frames per second. -/
  sampleRate : Nat
  /-- `BUF_FRAMES`, frames in each of the two output buffers. -/
  bufFrames : Nat
deriving DecidableEq, Repr

/-- The bounds of 00_scope.md R8. -/
abbrev Config.Legal (c : Config) : Prop :=
  (8000 ≤ c.sampleRate ∧ c.sampleRate ≤ 96000) ∧ (1 ≤ c.bufFrames ∧ c.bufFrames ≤ 32768)

/-- The defaults of 00_scope.md R7. -/
def Config.default : Config := { sampleRate := 48000, bufFrames := 256 }

/-- `ONE`, the fixed-point value of 1.0. -/
abbrev Config.one : Int := 1073741824

/-- `ONE` as an unsigned number. -/
abbrev Config.oneNat : Nat := 1073741824

/-- `RES_MAX`, the largest resonance, `floor(0.95 * 2^30)`. -/
abbrev Config.resMax : Nat := 1020054732

/-- `CUTOFF_MIN`, 20 Hz in UQ16.16. -/
abbrev Config.cutoffMin : Nat := 1310720

/-- `CUTOFF_MAX`, 20000 Hz in UQ16.16. -/
abbrev Config.cutoffMax : Nat := 1310720000

/-- `MS_MAX`, the largest stage time in milliseconds. -/
abbrev Config.msMax : Nat := 5000

/-- `TWO_PI_Q28`, `2 * pi` in Q4.28. -/
abbrev Config.twoPiQ28 : Nat := 1686629713

end Sys2Proof
end

