-- ==== Sys2Proof/Syntax.lean ====
section
/-!
DEFINITION. What happens to the block: the operations of spec/opcode_table.json, one constructor a
row, and the raw entries of a trace (30_encoding.md R110).
-/

namespace Sys2Proof

/-- One operation of the opcode table. Host accesses carry all 32 data bits of their transaction
word, also where the block ignores them (entry 17), so that no bit of a word is dropped. -/
inductive Instr where
  /-- `R.STATUS`: 46_host_interface.md R295. -/
  | readStatus (data : Word)
  /-- `R.UNDERRUN_COUNT`: 46_host_interface.md R296. -/
  | readUnderrunCount (data : Word)
  /-- `R.AMPLITUDE`: 46_host_interface.md R297. -/
  | readAmplitude (data : Word)
  /-- `W.AMPLITUDE`: 46_host_interface.md R297. -/
  | writeAmplitude (data : Word)
  /-- `W.NOTE_ON`: 46_host_interface.md R298. -/
  | writeNoteOn (data : Word)
  /-- `W.NOTE_OFF`: 46_host_interface.md R299. -/
  | writeNoteOff (data : Word)
  /-- `W.PUBLISH`: 46_host_interface.md R294. -/
  | writePublish (data : Word)
  /-- `W.WAVEFORM`: 46_host_interface.md R293; field format 30_encoding.md R127. -/
  | writeWaveform (data : Word)
  /-- `W.CUTOFF`: 46_host_interface.md R293; field format 30_encoding.md R128. -/
  | writeCutoff (data : Word)
  /-- `W.RESONANCE`: 46_host_interface.md R293; field format 30_encoding.md R129. -/
  | writeResonance (data : Word)
  /-- `W.ATTACK_MS`: 46_host_interface.md R293; field format 30_encoding.md R130. -/
  | writeAttackMs (data : Word)
  /-- `W.DECAY_MS`: 46_host_interface.md R293; field format 30_encoding.md R131. -/
  | writeDecayMs (data : Word)
  /-- `W.SUSTAIN`: 46_host_interface.md R293; field format 30_encoding.md R132. -/
  | writeSustain (data : Word)
  /-- `W.RELEASE_MS`: 46_host_interface.md R293; field format 30_encoding.md R133. -/
  | writeReleaseMs (data : Word)
  /-- `W.NOTE_FREQ`: 46_host_interface.md R293; field format 30_encoding.md R134. -/
  | writeNoteFreq (data : Word)
  /-- `W.GATE`: 46_host_interface.md R293; field format 30_encoding.md R135. -/
  | writeGate (data : Word)
  /-- `R.WAVEFORM`: 46_host_interface.md R301; field format 30_encoding.md R127. -/
  | readWaveform (data : Word)
  /-- `R.CUTOFF`: 46_host_interface.md R301; field format 30_encoding.md R128. -/
  | readCutoff (data : Word)
  /-- `R.RESONANCE`: 46_host_interface.md R301; field format 30_encoding.md R129. -/
  | readResonance (data : Word)
  /-- `R.ATTACK_MS`: 46_host_interface.md R301; field format 30_encoding.md R130. -/
  | readAttackMs (data : Word)
  /-- `R.DECAY_MS`: 46_host_interface.md R301; field format 30_encoding.md R131. -/
  | readDecayMs (data : Word)
  /-- `R.SUSTAIN`: 46_host_interface.md R301; field format 30_encoding.md R132. -/
  | readSustain (data : Word)
  /-- `R.RELEASE_MS`: 46_host_interface.md R301; field format 30_encoding.md R133. -/
  | readReleaseMs (data : Word)
  /-- `R.NOTE_FREQ`: 46_host_interface.md R301; field format 30_encoding.md R134. -/
  | readNoteFreq (data : Word)
  /-- `R.GATE`: 46_host_interface.md R301; field format 30_encoding.md R135. -/
  | readGate (data : Word)
  /-- `R.PUB.WAVEFORM`: 46_host_interface.md R300; field format 30_encoding.md R127. -/
  | readPubWaveform (data : Word)
  /-- `R.PUB.CUTOFF`: 46_host_interface.md R300; field format 30_encoding.md R128. -/
  | readPubCutoff (data : Word)
  /-- `R.PUB.RESONANCE`: 46_host_interface.md R300; field format 30_encoding.md R129. -/
  | readPubResonance (data : Word)
  /-- `R.PUB.ATTACK_MS`: 46_host_interface.md R300; field format 30_encoding.md R130. -/
  | readPubAttackMs (data : Word)
  /-- `R.PUB.DECAY_MS`: 46_host_interface.md R300; field format 30_encoding.md R131. -/
  | readPubDecayMs (data : Word)
  /-- `R.PUB.SUSTAIN`: 46_host_interface.md R300; field format 30_encoding.md R132. -/
  | readPubSustain (data : Word)
  /-- `R.PUB.RELEASE_MS`: 46_host_interface.md R300; field format 30_encoding.md R133. -/
  | readPubReleaseMs (data : Word)
  /-- `R.PUB.NOTE_FREQ`: 46_host_interface.md R300; field format 30_encoding.md R134. -/
  | readPubNoteFreq (data : Word)
  /-- `R.PUB.GATE`: 46_host_interface.md R300; field format 30_encoding.md R135. -/
  | readPubGate (data : Word)
  /-- `RESERVED.ACCESS`: 30_encoding.md R137: any other (`we`, `addr`) pair. -/
  | reservedAccess (we : Bool) (addr : Offset) (data : Word)
  /-- `SCHED.HT`: 45_output_scheduler.md R263. -/
  | schedHt
  /-- `SCHED.TC`: 45_output_scheduler.md R265. -/
  | schedTc
  /-- `RENDER.FRAME`: 44_render_engine.md R245: the render agent's own step. -/
  | renderFrame
  /-- `RENDER.BLOCKSTART`: 44_render_engine.md R241. -/
  | renderBlockstart
  /-- `OSC.SETFREQ`: 40_oscillator.md R152: `f` a signed Q16.16 frequency. -/
  | oscSetfreq (f : Word)
  /-- `OSC.SETWAVE`: 40_oscillator.md R153: `w` the `WAVEFORM` pattern. -/
  | oscSetwave (w : Word)
  /-- `OSC.ADVANCE`: 40_oscillator.md R161. -/
  | oscAdvance
  /-- `FLT.SETCUTOFF`: 41_filter.md R171: `c` an unsigned UQ16.16 cutoff. -/
  | fltSetcutoff (c : Word)
  /-- `FLT.SETRES`: 41_filter.md R173: `r` an unsigned UQ2.30 resonance. -/
  | fltSetres (r : Word)
  /-- `FLT.PROCESS`: 41_filter.md R175: `x` a Q2.30 sample. -/
  | fltProcess (x : Int)
  /-- `ENV.SETPARAMS`: 42_envelope.md R191: the patterns `A`, `D`, `S`, `Rl`. -/
  | envSetparams (a : Word) (d : Word) (sl : Word) (rl : Word)
  /-- `ENV.GATEON`: 42_envelope.md R197. -/
  | envGateon
  /-- `ENV.GATEOFF`: 42_envelope.md R198. -/
  | envGateoff
  /-- `ENV.TICK`: 42_envelope.md R199. -/
  | envTick
  /-- `VOICE.TRIGGER`: 43_voice.md R221: `f` a signed Q16.16 frequency. -/
  | voiceTrigger (f : Word)
  /-- `VOICE.RELEASE`: 43_voice.md R222. -/
  | voiceRelease
  /-- `VOICE.RENDERSAMPLE`: 43_voice.md R223. -/
  | voiceRendersample
  /-- `RESET`: 70_reset_and_hazards.md R360. -/
  | reset
  /-- `TX.FRAME`: 45_output_scheduler.md R277: a step of the peripheral's model. -/
  | txFrame
deriving DecidableEq, Repr

/-- One raw entry of the total order of steps (20_memory.md R93): what presents itself to the block,
before decoding. Words are plain numbers, so that a word wider than its port can be presented and
refused (93_implementation_defined.md X2). -/
inductive Signal where
  /-- A word on the host port, 41 bits by 30_encoding.md R111. -/
  | host (x : Nat)
  /-- A word on the event lines, 2 bits by 30_encoding.md R113. -/
  | event (e : Nat)
  /-- The render agent's turn to render one frame, script `F` (30_encoding.md R140). -/
  | frame
  /-- The reset input, script `RESET` (70_reset_and_hazards.md R360). -/
  | reset
  /-- The peripheral's turn to transmit one frame (45_output_scheduler.md R277). -/
  | transmit
deriving DecidableEq, Repr

/-- The nine fields of a snapshot, in the order of their numbers `n` (10_state.md R56). -/
inductive Field where
  | waveform
  | cutoff
  | resonance
  | attackMs
  | decayMs
  | sustain
  | releaseMs
  | noteFreq
  | gate
deriving DecidableEq, Repr

end Sys2Proof
end

