-- ==== Sys2Proof/Machine/State.lean ====
section
/-!
DEFINITION. The state of the block as plain data (10_state.md), of the peripheral's model
(45_output_scheduler.md R277), and the model's own fields; the reasons a step can stop; reset.
-/

namespace Sys2Proof.Machine

/-- The waveform selector, 2 bits (10_state.md R32; 30_encoding.md R125; entry 13). -/
inductive Waveform where
  | sine | saw | square | triangle
deriving DecidableEq, Repr

/-- The envelope stage, 3 bits with five values (10_state.md R36; 30_encoding.md R126; entry 13). -/
inductive Stage where
  | idle | attack | decay | sustain | release
deriving DecidableEq, Repr

/-- The two output buffers, and with them the scheduler state FillingA or FillingB: the buffer
software owns (10_state.md R52, R54; 30_encoding.md R126). -/
inductive Buffer where
  | A | B
deriving DecidableEq, Repr

/-- OscillatorState (10_state.md R30 to R32). -/
structure Oscillator where
  phase : BitVec 32
  phaseIncrement : BitVec 32
  waveform : Waveform
deriving DecidableEq, Repr

/-- FilterState (10_state.md R33 to R35): UQ2.30, UQ2.30 and signed Q2.30. -/
structure Filter where
  cutoffCoefficient : BitVec 31
  resonance : BitVec 30
  previousOutput : BitVec 32
deriving DecidableEq, Repr

/-- EnvelopeState (10_state.md R36 to R41): levels UQ2.30, the increment signed Q2.30, times in
samples. -/
structure Envelope where
  stage : Stage
  level : BitVec 31
  increment : BitVec 32
  target : BitVec 31
  attackTime : BitVec 32
  decayTime : BitVec 32
  releaseTime : BitVec 32
  sustainLevel : BitVec 31
deriving DecidableEq, Repr

/-- The one Voice: all per-note state (00_scope.md R6; 10_state.md R43 to R46). -/
structure Voice where
  osc : Oscillator
  flt : Filter
  env : Envelope
  frequency : BitVec 32
  amplitude : BitVec 31
  active : Bool
deriving DecidableEq, Repr

/-- The render engine's registers (10_state.md R51, R59). -/
structure Render where
  frameIdx : BitVec 15
  prevGate : Bool
deriving DecidableEq, Repr

/-- The output scheduler's registers (10_state.md R52 to R55). -/
structure Scheduler where
  own : Buffer
  busy : Bool
  fillTarget : Buffer
  underrunFlag : Bool
  underrunCount : BitVec 32
deriving DecidableEq, Repr

/-- One snapshot: nine 32-bit fields (10_state.md R56). -/
structure Snapshot where
  waveform : Word
  cutoff : Word
  resonance : Word
  attackMs : Word
  decayMs : Word
  sustain : Word
  releaseMs : Word
  noteFreq : Word
  gate : Word
deriving DecidableEq, Repr

/-- The two banks and `snap.pubIdx`; `true` is index 1 (10_state.md R57). -/
structure Banks where
  bank0 : Snapshot
  bank1 : Snapshot
  pubIdx : Bool
deriving DecidableEq, Repr

/-- The output loop in its byte view: (byte address, byte) pairs, addresses strictly rising and no
byte equal to what an unlisted address reads as (20_memory.md R82, R85; entry 14). -/
abbrev Memory := List Host.Cell

/-- What a byte of the loop that is not listed reads as: the reset contents (10_state.md R64). -/
abbrev unlistedByte : Byte := 0#8

/-- Addresses rise strictly from `lo` on and no listed byte is `unlistedByte`. -/
def Memory.wfFrom (lo : Nat) : Memory → Bool
  | [] => true
  | (a, b) :: rest => decide (lo ≤ a) && decide (b ≠ unlistedByte) && Memory.wfFrom (a + 1) rest

/-- The canonical form. -/
def Memory.wf (m : Memory) : Bool := Memory.wfFrom 0 m

/-- The model's own record of what can be observed (00_scope.md R22; entry 9). -/
structure Observed where
  /-- The patterns host reads returned, oldest first. -/
  reads : List Word
  /-- The frames the peripheral emitted, oldest first: left and right word. -/
  stream : List (Half × Half)
  /-- What the last internal operation executed on its own returned (entry 10). -/
  value : Int
deriving DecidableEq, Repr

structure State where
  /-- The parameters (00_scope.md R7; entry 4). -/
  cfg : Config
  voice : Voice
  rend : Render
  sched : Scheduler
  snap : Banks
  /-- The output loop `OUT` (20_memory.md R82). -/
  out : Memory
  /-- `tx.pos` of the peripheral's model (45_output_scheduler.md R277). -/
  txPos : Nat
  /-- The model's own: observations (entry 9). -/
  obs : Observed
  /-- The model's own: the steps still to come, oldest first (entry 1). -/
  trace : List Signal
deriving DecidableEq, Repr

/-- The reasons the model stops where the spec has no such state (93_implementation_defined.md Z2).
The spec's block never faults (60_exceptions.md R320). -/
inductive Fault where
  /-- Raised by `RENDER.FRAME` when `rend.frameIdx` lies outside the buffer (20_memory.md R84).
  Safe: no reachable state has such an index. -/
  | bufferWordOutOfRange
  /-- Raised by `TX.FRAME` when `tx.pos` lies outside the loop (45_output_scheduler.md R277).
  Safe: no reachable state has such a position. -/
  | loopFrameOutOfRange
deriving DecidableEq, Repr

/-- The inputs that a well-formed test does not contain (93_implementation_defined.md section 3). -/
inductive Refusal where
  /-- Raised by `exec` for an operation without a meaning; no arm uses it. Safe. -/
  | notModelled (mnemonic : String)
  /-- Raised by `RENDER.FRAME` while no fill runs (70_reset_and_hazards.md R382). Safe: the spec
  says no such step exists. -/
  | noFillRunning
  /-- Raised by `step` on a host word of more than 41 bits (93_implementation_defined.md X2).
  Safe: the transaction word has no such values. -/
  | wideTransaction
  /-- Raised by `step` on an event word of more than 2 bits (30_encoding.md R113). Safe: the event
  word has no such values. -/
  | wideEvent
deriving DecidableEq, Repr

/-- The Voice after reset (10_state.md R64). -/
def Voice.atReset : Voice :=
  { osc := { phase := 0#32, phaseIncrement := 0#32, waveform := .sine }
    flt := { cutoffCoefficient := 0x40000000#31, resonance := 0#30, previousOutput := 0#32 }
    env := { stage := .idle, level := 0#31, increment := 0#32, target := 0#31, attackTime := 0#32,
             decayTime := 0#32, releaseTime := 0#32, sustainLevel := 0x40000000#31 }
    frequency := 0#32
    amplitude := 0x40000000#31
    active := false }

/-- The reset snapshot (10_state.md R64). -/
def Snapshot.atReset : Snapshot :=
  { waveform := 0#32, cutoff := 0x4E200000#32, resonance := 0#32, attackMs := 0#32, decayMs := 0#32,
    sustain := 0x40000000#32, releaseMs := 0#32, noteFreq := 0#32, gate := 0#32 }

/-- The render engine after reset (10_state.md R64). -/
def Render.atReset : Render := { frameIdx := 0#15, prevGate := false }

/-- The scheduler after reset (10_state.md R64). -/
def Scheduler.atReset : Scheduler :=
  { own := .A, busy := false, fillTarget := .A, underrunFlag := false, underrunCount := 0#32 }

/-- Both banks after reset (10_state.md R64). -/
def Banks.atReset : Banks := { bank0 := .atReset, bank1 := .atReset, pubIdx := false }

/-- A machine with the parameters `c` right after reset (10_state.md R64), nothing having been
observed and no step to come. -/
def State.resetWith (c : Config) : State :=
  { cfg := c
    voice := .atReset
    rend := .atReset
    sched := .atReset
    snap := .atReset
    out := []
    txPos := 0
    obs := { reads := [], stream := [], value := 0 }
    trace := [] }

/-- The machine right after reset at the default parameters (00_scope.md R7; 10_state.md R64). -/
def State.reset : State := State.resetWith Config.default

end Sys2Proof.Machine
end

