-- ==== Sys2Proof/Machine/Operands.lean ====
section
/-!
DEFINITION. Fixed-point arithmetic (00_scope.md R12 to R16) and what the registers take from the
operand patterns (30_encoding.md R121 to R135): every operand form of the block.
-/

namespace Sys2Proof.Machine

/-- `rnd_k(p)`: division by `2^k` to the nearest, a tie toward plus infinity (00_scope.md R13). -/
def rnd (k : Nat) (p : Int) : Int := (p + 2 ^ (k - 1)) / 2 ^ k

/-- `qmul(a, b)`, the product of two Q2.30 numbers (00_scope.md R14). -/
def qmul (a b : Int) : Int := rnd 30 (a * b)

/-- `clamp(v, lo, hi)` (00_scope.md R15). -/
def clamp (v lo hi : Int) : Int := if v < lo then lo else if hi < v then hi else v

/-- `clamp` on unsigned numbers (00_scope.md R15). -/
def clampNat (v lo hi : Nat) : Nat := if v < lo then lo else if hi < v then hi else v

/-- `divAway(d, n)`: the quotient rounded away from zero (00_scope.md R16). -/
def divAway (d n : Int) : Int := if 0 ≤ d then (d + n - 1) / n else -((-d + n - 1) / n)

/-- The phase increment of a frequency pattern, `mod 2^32` (40_oscillator.md R152). -/
def incrementOf (c : Config) (f : Word) : BitVec 32 :=
  if f.toInt ≤ 0 then 0#32 else BitVec.ofInt 32 (f.toInt * 65536 / (c.sampleRate : Int))

/-- The selector of a `WAVEFORM` pattern: all 32 bits count, above 3 is Sine
(40_oscillator.md R153; 30_encoding.md R127). -/
def waveformOf (w : Word) : Waveform :=
  if w = 1#32 then .saw else if w = 2#32 then .square else if w = 3#32 then .triangle else .sine

/-- The coefficient of a `CUTOFF` pattern (41_filter.md R171). -/
def coefficientOf (c : Config) (cut : Word) : BitVec 31 :=
  let cc := clampNat cut.toNat Config.cutoffMin Config.cutoffMax
  BitVec.ofNat 31 (clampNat (Config.twoPiQ28 * cc / (c.sampleRate * 16384)) 1 Config.oneNat)

/-- The resonance of a `RESONANCE` pattern (41_filter.md R173). -/
def resonanceOf (r : Word) : BitVec 30 := BitVec.ofNat 30 (min r.toNat Config.resMax)

/-- The duration in samples of a millisecond pattern (42_envelope.md R191). -/
def samplesOf (c : Config) (ms : Word) : BitVec 32 :=
  BitVec.ofNat 32 (min ms.toNat Config.msMax * c.sampleRate / 1000)

/-- A pattern clamped to 0 .. `ONE`: `SUSTAIN` (42_envelope.md R191) and `AMPLITUDE`
(46_host_interface.md R297). -/
def unitOf (p : Word) : BitVec 31 := BitVec.ofNat 31 (min p.toNat Config.oneNat)

/-- The gate boolean, bit 0 of `GATE` (30_encoding.md R135). -/
def gateOf (p : Word) : Bool := p.getLsbD 0

/-- `pcm(v)`: a Q2.30 sample as signed 16-bit PCM (44_render_engine.md R244). -/
def pcm (v : Int) : Int := clamp (rnd 15 v) (-32768) 32767

/-- `u16(v)`, the pattern a PCM word stores (20_memory.md R84). -/
def pcmWord (v : Int) : Half := BitVec.ofInt 16 v

end Sys2Proof.Machine
end

