-- ==== Sys2Proof/Machine/Ops.lean ====
section
/-!
DEFINITION. The named operations over memory and registers: the byte and word views of the output
loop (20_memory.md R82 to R85), the two snapshot banks (10_state.md R57), the field updates of
State, and the return from an event's activity (44_render_engine.md R246). The block takes no
exception (60_exceptions.md R320); what stands in its place, the event procedure, is `takeEvent` in
Machine/Scheduler.lean.
-/

namespace Sys2Proof.Machine

/-! ### Field updates -/

def State.setVoice (v : Voice) (s : State) : State := { s with voice := v }

def State.setRend (r : Render) (s : State) : State := { s with rend := r }

def State.setSched (c : Scheduler) (s : State) : State := { s with sched := c }

def State.setSnap (b : Banks) (s : State) : State := { s with snap := b }

def State.setOut (m : Memory) (s : State) : State := { s with out := m }

def State.setTxPos (p : Nat) (s : State) : State := { s with txPos := p }

def State.setObs (o : Observed) (s : State) : State := { s with obs := o }

def State.setTrace (t : List Signal) (s : State) : State := { s with trace := t }

/-- A host read returns `v` (30_encoding.md R111; entry 9). -/
def State.hostReturns (v : Word) (s : State) : State :=
  s.setObs { s.obs with reads := s.obs.reads ++ [v] }

/-- An internal operation executed on its own returns `v` (entry 10). -/
def State.returns (v : Int) (s : State) : State := s.setObs { s.obs with value := v }

/-- The peripheral emits a frame (45_output_scheduler.md R277). -/
def State.emits (l r : Half) (s : State) : State :=
  s.setObs { s.obs with stream := s.obs.stream ++ [(l, r)] }

/-- An event word is raised: its scheduler step is the next of the total order
(45_output_scheduler.md R262, R277; entry 5). -/
def State.raises (e : Nat) (s : State) : State := s.setTrace (.event e :: s.trace)

/-! ### The output loop, byte by byte -/

/-- The byte at an address of the loop's byte view. -/
def Memory.read : Memory → Nat → Byte
  | [], _ => unlistedByte
  | (a, b) :: rest, x => if a = x then b else Memory.read rest x

/-- Puts a byte at the head of the cells above its address, unless it is what an unlisted address
reads as. -/
def Memory.push (x : Nat) (v : Byte) (rest : Memory) : Memory :=
  if v = unlistedByte then rest else (x, v) :: rest

/-- Stores a byte, keeping the canonical form. -/
def Memory.write : Memory → Nat → Byte → Memory
  | [], x, v => Memory.push x v []
  | (a, b) :: rest, x, v =>
    if x < a then Memory.push x v ((a, b) :: rest)
    else if x = a then Memory.push x v rest
    else (a, b) :: Memory.write rest x v

/-- `OUT[w]`: byte `2w` holds bits 7:0, byte `2w + 1` bits 15:8 (20_memory.md R85). -/
def Memory.readHalf (m : Memory) (w : Nat) : Half := m.read (2 * w + 1) ++ m.read (2 * w)

/-- `OUT[w] <- v` (20_memory.md R85). -/
def Memory.writeHalf (m : Memory) (w : Nat) (v : Half) : Memory :=
  (m.write (2 * w) (v.extractLsb' 0 8)).write (2 * w + 1) (v.extractLsb' 8 8)

/-! ### The two buffers -/

/-- `base(B) = 0`, `base(A) = 2 * BUF_FRAMES` (20_memory.md R84). -/
def bufBase (c : Config) : Buffer → Nat
  | .A => 2 * c.bufFrames
  | .B => 0

/-- `BufWrite(b, w, v)`; none where word `w` does not exist in the buffer (20_memory.md R84). -/
def bufWrite (c : Config) (b : Buffer) (w : Nat) (v : Int) (m : Memory) : Option Memory :=
  if w < 2 * c.bufFrames then some (m.writeHalf (bufBase c b + w) (pcmWord v)) else none

/-- `BufRead(b, w)`, the signed value of the word (20_memory.md R84). -/
def bufRead (c : Config) (b : Buffer) (w : Nat) (m : Memory) : Option Int :=
  if w < 2 * c.bufFrames then some (m.readHalf (bufBase c b + w)).toInt else none

/-- The two writes of frame `k`, the same value left and right (44_render_engine.md R245). -/
def frameWrite (c : Config) (b : Buffer) (k : Nat) (v : Int) (m : Memory) : Option Memory :=
  (bufWrite c b (2 * k) v m).bind (bufWrite c b (2 * k + 1) v)

/-- Loop frame `f`, its left and right word (20_memory.md R82); none outside the loop. -/
def loopFrame (c : Config) (f : Nat) (m : Memory) : Option (Half × Half) :=
  if f < 2 * c.bufFrames then some (m.readHalf (2 * f), m.readHalf (2 * f + 1)) else none

/-! ### The two snapshot banks -/

/-- `FIELD(n)` of a snapshot (46_host_interface.md R293). -/
def Snapshot.get (f : Field) (b : Snapshot) : Word :=
  match f with
  | .waveform => b.waveform
  | .cutoff => b.cutoff
  | .resonance => b.resonance
  | .attackMs => b.attackMs
  | .decayMs => b.decayMs
  | .sustain => b.sustain
  | .releaseMs => b.releaseMs
  | .noteFreq => b.noteFreq
  | .gate => b.gate

/-- `FIELD(n) <- v` (46_host_interface.md R293). -/
def Snapshot.set (f : Field) (v : Word) (b : Snapshot) : Snapshot :=
  match f with
  | .waveform => { b with waveform := v }
  | .cutoff => { b with cutoff := v }
  | .resonance => { b with resonance := v }
  | .attackMs => { b with attackMs := v }
  | .decayMs => { b with decayMs := v }
  | .sustain => { b with sustain := v }
  | .releaseMs => { b with releaseMs := v }
  | .noteFreq => { b with noteFreq := v }
  | .gate => { b with gate := v }

/-- `bank[snap.pubIdx]` (10_state.md R57). -/
def Banks.published (b : Banks) : Snapshot := if b.pubIdx then b.bank1 else b.bank0

/-- `bank[1 - snap.pubIdx]` (10_state.md R57). -/
def Banks.staging (b : Banks) : Snapshot := if b.pubIdx then b.bank0 else b.bank1

/-- Writes the staging bank only (46_host_interface.md R293). -/
def Banks.setStaging (v : Snapshot) (b : Banks) : Banks :=
  if b.pubIdx then { b with bank0 := v } else { b with bank1 := v }

/-- `snap.pubIdx <- 1 - snap.pubIdx` (46_host_interface.md R294). -/
def Banks.publish (b : Banks) : Banks := { b with pubIdx := !b.pubIdx }

/-! ### The return from an event's activity -/

/-- The index update after a frame; the last frame of a block ends the fill
(44_render_engine.md R246; 60_exceptions.md R336). -/
def endFrame (s : State) : State :=
  if s.rend.frameIdx.toNat + 1 = s.cfg.bufFrames then
    (s.setSched { s.sched with busy := false }).setRend { s.rend with frameIdx := 0#15 }
  else s.setRend { s.rend with frameIdx := s.rend.frameIdx + 1#15 }

end Sys2Proof.Machine
end

