-- ==== Sys2Proof/Machine/Control.lean ====
section
/-!
DEFINITION. Reset (70_reset_and_hazards.md R360) and the step of the peripheral's model
(45_output_scheduler.md R277).
-/

namespace Sys2Proof.Machine

/-- The position after a transmitted frame, wrapping at the end of the loop
(45_output_scheduler.md R277). -/
def txNext (c : Config) (p : Nat) : Nat := if p + 1 = 2 * c.bufFrames then 0 else p + 1

/-- Raises `HT` after the first half of the loop and `TC` after the second
(45_output_scheduler.md R277; entry 5). -/
def raiseAt (c : Config) (p : Nat) (s : State) : State :=
  if p + 1 = c.bufFrames then s.raises 1
  else if p + 1 = 2 * c.bufFrames then s.raises 2
  else s

/-- `RESET`: every piece of the block's state takes its reset value. The parameters, the peripheral,
what has been observed and the steps still to come are not the block's (70_reset_and_hazards.md R362;
entry 12). -/
def execReset (s : State) : Host.Outcome State Fault Refusal :=
  .next { State.resetWith s.cfg with txPos := s.txPos, obs := s.obs, trace := s.trace }

/-- `TX.FRAME` (45_output_scheduler.md R277). -/
def execTxFrame (s : State) : Host.Outcome State Fault Refusal :=
  match loopFrame s.cfg s.txPos s.out with
  | none => .fault .loopFrameOutOfRange
  | some (l, r) => .next (raiseAt s.cfg s.txPos ((s.emits l r).setTxPos (txNext s.cfg s.txPos)))

end Sys2Proof.Machine
end

