-- ==== Sys2Proof/Machine/Envelope.lean ====
section
/-!
DEFINITION. The Envelope Generator (42_envelope.md): stage entry and completion, its four operations
and their rows of the opcode table.
-/

namespace Sys2Proof.Machine

/-- `ONE` as a level. -/
abbrev levelOne : BitVec 31 := 0x40000000#31

/-- `ENV.SETPARAMS(A, D, S, Rl)` (42_envelope.md R191). -/
def Envelope.setParams (c : Config) (a d sl rl : Word) (e : Envelope) : Envelope :=
  { e with attackTime := samplesOf c a, decayTime := samplesOf c d, releaseTime := samplesOf c rl,
           sustainLevel := unitOf sl }

/-- Step (1) of a stage entry: a zero-duration stage jumps to its target (42_envelope.md R195). -/
def Envelope.jump (target : BitVec 31) (dur : BitVec 32) (e : Envelope) : Envelope :=
  if dur = 0#32 then { e with level := target } else e

/-- Step (3) of a stage entry: the ramp's increment is fixed here, once (42_envelope.md R195). -/
def Envelope.beginRamp (stage : Stage) (target : BitVec 31) (dur : BitVec 32) (e : Envelope) :
    Envelope :=
  { e with stage := stage, target := target,
           increment := BitVec.ofInt 32 (divAway ((target.toNat : Int) - e.level.toNat) dur.toNat) }

/-- `enter(stage, target, dur)`, with `complete(stage)` given as `done` (42_envelope.md R195). -/
def Envelope.enter (stage : Stage) (target : BitVec 31) (dur : BitVec 32)
    (done : Envelope → Envelope) (e : Envelope) : Envelope :=
  if (e.jump target dur).level = target then done (e.jump target dur)
  else (e.jump target dur).beginRamp stage target dur

/-- `complete(Decay)` (42_envelope.md R196). -/
def Envelope.completeDecay (e : Envelope) : Envelope :=
  { e with stage := .sustain, target := e.level, increment := 0#32 }

/-- `complete(Release)` (42_envelope.md R196). -/
def Envelope.completeRelease (e : Envelope) : Envelope :=
  { e with stage := .idle, target := 0#31, increment := 0#32 }

/-- `complete(Attack)`: Decay is entered, its sustain level latched (42_envelope.md R196). -/
def Envelope.completeAttack (e : Envelope) : Envelope :=
  e.enter .decay e.sustainLevel e.decayTime Envelope.completeDecay

/-- `complete(stage)`; Idle and Sustain are no ramps and complete nothing (42_envelope.md R196). -/
def Envelope.complete (stage : Stage) (e : Envelope) : Envelope :=
  match stage with
  | .idle => e
  | .attack => e.completeAttack
  | .decay => e.completeDecay
  | .sustain => e
  | .release => e.completeRelease

/-- `ENV.GATEON()` (42_envelope.md R197). -/
def Envelope.gateOn (e : Envelope) : Envelope :=
  e.enter .attack levelOne e.attackTime Envelope.completeAttack

/-- Enters Release (42_envelope.md R194). -/
def Envelope.enterRelease (e : Envelope) : Envelope :=
  e.enter .release 0#31 e.releaseTime Envelope.completeRelease

/-- `ENV.GATEOFF()`: nothing in Idle and in Release (42_envelope.md R198). -/
def Envelope.gateOff (e : Envelope) : Envelope :=
  match e.stage with
  | .idle => e
  | .attack => e.enterRelease
  | .decay => e.enterRelease
  | .sustain => e.enterRelease
  | .release => e

/-- The ramp value of a tick, steps (1) and (2): the last step is shortened to land on the target
(42_envelope.md R199). -/
def Envelope.rampValue (e : Envelope) : Int :=
  let l := (e.level.toNat : Int) + e.increment.toInt
  if 0 < e.increment.toInt ∧ (e.target.toNat : Int) < l then e.target.toNat
  else if e.increment.toInt < 0 ∧ l < (e.target.toNat : Int) then e.target.toNat
  else l

/-- Step (3): the level takes the ramp value, clamped to 0 .. `ONE` (42_envelope.md R199). -/
def Envelope.ramped (e : Envelope) : Envelope :=
  { e with level := BitVec.ofInt 31 (clamp e.rampValue 0 Config.one) }

/-- One tick of a ramping stage, steps (1) to (5) (42_envelope.md R199). -/
def Envelope.rampTick (e : Envelope) : Int × Envelope :=
  (e.ramped.level.toNat,
    if e.ramped.level = e.ramped.target then e.ramped.complete e.stage else e.ramped)

/-- `ENV.TICK() -> g` (42_envelope.md R199). -/
def Envelope.tick (e : Envelope) : Int × Envelope :=
  match e.stage with
  | .idle => (e.level.toNat, e)
  | .attack => e.rampTick
  | .decay => e.rampTick
  | .sustain => (e.level.toNat, e)
  | .release => e.rampTick

/-- Replaces the envelope of the Voice. -/
def State.setEnv (e : Envelope) (s : State) : State := s.setVoice { s.voice with env := e }

/-- `ENV.SETPARAMS` (42_envelope.md R191). -/
def execEnvSetparams (a d sl rl : Word) (s : State) : Host.Outcome State Fault Refusal :=
  .next (s.setEnv (s.voice.env.setParams s.cfg a d sl rl))

/-- `ENV.GATEON` (42_envelope.md R197). -/
def execEnvGateon (s : State) : Host.Outcome State Fault Refusal := .next (s.setEnv s.voice.env.gateOn)

/-- `ENV.GATEOFF` (42_envelope.md R198). -/
def execEnvGateoff (s : State) : Host.Outcome State Fault Refusal := .next (s.setEnv s.voice.env.gateOff)

/-- `ENV.TICK` (42_envelope.md R199); its gain is what it returns (entry 10). -/
def execEnvTick (s : State) : Host.Outcome State Fault Refusal :=
  .next ((s.setEnv s.voice.env.tick.2).returns s.voice.env.tick.1)

end Sys2Proof.Machine
end

