-- ==== Sys2Proof/Machine/Filter.lean ====
section
/-!
DEFINITION. The Filter (41_filter.md): the effective coefficient, its three operations and their
rows of the opcode table.
-/

namespace Sys2Proof.Machine

/-- `effCoef(a, r)` (41_filter.md R174). -/
def effCoef (a r : Int) : Int := max 1 (a - qmul r (qmul a (Config.one - a)))

/-- `FLT.SETCUTOFF(C)` (41_filter.md R171). -/
def Filter.setCutoff (c : Config) (cut : Word) (f : Filter) : Filter :=
  { f with cutoffCoefficient := coefficientOf c cut }

/-- `FLT.SETRES(R)` (41_filter.md R173). -/
def Filter.setRes (r : Word) (f : Filter) : Filter := { f with resonance := resonanceOf r }

/-- The output for an input `x`: exact products, one rounding, then the clamp (41_filter.md R175). -/
def Filter.output (x : Int) (f : Filter) : Int :=
  let ae := effCoef f.cutoffCoefficient.toNat f.resonance.toNat
  clamp (rnd 30 (ae * x + (Config.one - ae) * f.previousOutput.toInt)) (-Config.one) Config.one

/-- `FLT.PROCESS(x) -> y` (41_filter.md R175). -/
def Filter.process (x : Int) (f : Filter) : Int × Filter :=
  (f.output x, { f with previousOutput := BitVec.ofInt 32 (f.output x) })

/-- Replaces the filter of the Voice. -/
def State.setFlt (f : Filter) (s : State) : State := s.setVoice { s.voice with flt := f }

/-- `FLT.SETCUTOFF` (41_filter.md R171). -/
def execFltSetcutoff (c : Word) (s : State) : Host.Outcome State Fault Refusal :=
  .next (s.setFlt (s.voice.flt.setCutoff s.cfg c))

/-- `FLT.SETRES` (41_filter.md R173). -/
def execFltSetres (r : Word) (s : State) : Host.Outcome State Fault Refusal :=
  .next (s.setFlt (s.voice.flt.setRes r))

/-- `FLT.PROCESS` (41_filter.md R175); its output is what it returns (entry 10). -/
def execFltProcess (x : Int) (s : State) : Host.Outcome State Fault Refusal :=
  .next ((s.setFlt (s.voice.flt.process x).2).returns (s.voice.flt.process x).1)

end Sys2Proof.Machine
end

