-- ==== Sys2Proof/Machine/Flags.lean ====
section
/-!
DEFINITION. Every flag of the block and what computes it (10_state.md R55): the `STATUS` word, the
underrun record, the `active` flag. There are no condition codes.
-/

namespace Sys2Proof.Machine

/-- The stage encoding (30_encoding.md R126). -/
def stageCode : Stage → Nat
  | .idle => 0
  | .attack => 1
  | .decay => 2
  | .sustain => 3
  | .release => 4

/-- The buffer and scheduler-state encoding (30_encoding.md R126). -/
def bufferCode : Buffer → Nat
  | .A => 0
  | .B => 1

/-- The `STATUS` word, assembled at the moment of the read (46_host_interface.md R295;
30_encoding.md R119). -/
def statusWord (s : State) : Word :=
  BitVec.ofNat 32
    (s.sched.busy.toNat + 2 * bufferCode s.sched.own + 4 * s.sched.underrunFlag.toNat
      + 8 * s.voice.active.toNat + 16 * stageCode s.voice.env.stage + 128 * s.snap.pubIdx.toNat
      + 256 * bufferCode s.sched.fillTarget + 512 * s.rend.prevGate.toNat)

/-- `sched.underrunCount` counts and saturates (45_output_scheduler.md R268). -/
def saturatingCount (n : BitVec 32) : BitVec 32 := BitVec.ofNat 32 (min (n.toNat + 1) (2 ^ 32 - 1))

/-- The underrun action: flag and count, nothing else (45_output_scheduler.md R267). -/
def recordUnderrun (c : Scheduler) : Scheduler :=
  { c with underrunFlag := true, underrunCount := saturatingCount c.underrunCount }

/-- `voice.active` after a frame: cleared whenever the stage is Idle after the tick
(43_voice.md R224). -/
def activeAfter (env : Envelope) (active : Bool) : Bool :=
  match env.stage with
  | .idle => false
  | .attack => active
  | .decay => active
  | .sustain => active
  | .release => active

end Sys2Proof.Machine
end

