-- ==== Sys2Proof/Machine/Oscillator.lean ====
section
/-!
DEFINITION. The Oscillator (40_oscillator.md): the four waveform functions, its three operations and
their rows of the opcode table.
-/

namespace Sys2Proof.Machine

/-- `sine(p)`: index `p[31:22]`, fraction `p[21:0]`, linear interpolation (40_oscillator.md R156, R157). -/
def sineWave (p : BitVec 32) : Int :=
  let i : Nat := p.toNat / 2 ^ 22
  let f : Nat := p.toNat % 2 ^ 22
  let a : Int := rom i
  let b : Int := rom ((i + 1) % 1024)
  a * 32768 + rnd 7 ((b - a) * (f : Int))

/-- `saw(p)` (40_oscillator.md R158). -/
def sawWave (p : BitVec 32) : Int := (p.toNat : Int) / 2 - Config.one

/-- `square(p)` (40_oscillator.md R159). -/
def squareWave (p : BitVec 32) : Int := if p.toNat < 2 ^ 31 then Config.one else -Config.one

/-- `triangle(p)` (40_oscillator.md R160). -/
def triangleWave (p : BitVec 32) : Int :=
  if p.toNat < 2 ^ 31 then (p.toNat : Int) - Config.one else 3 * Config.one - p.toNat

/-- `wave(w, p)` (40_oscillator.md R154). -/
def wave (w : Waveform) (p : BitVec 32) : Int :=
  match w with
  | .sine => sineWave p
  | .saw => sawWave p
  | .square => squareWave p
  | .triangle => triangleWave p

/-- `OSC.SETFREQ(F)` (40_oscillator.md R152). -/
def Oscillator.setFreq (c : Config) (f : Word) (o : Oscillator) : Oscillator :=
  { o with phaseIncrement := incrementOf c f }

/-- `OSC.SETWAVE(W)` (40_oscillator.md R153). -/
def Oscillator.setWave (w : Word) (o : Oscillator) : Oscillator := { o with waveform := waveformOf w }

/-- The phase after one advance, modulo one cycle (40_oscillator.md R161). -/
def Oscillator.step (o : Oscillator) : Oscillator := { o with phase := o.phase + o.phaseIncrement }

/-- `OSC.ADVANCE() -> x`: the wave value at the new phase (40_oscillator.md R161). -/
def Oscillator.advance (o : Oscillator) : Int × Oscillator := (wave o.waveform o.step.phase, o.step)

/-- Replaces the oscillator of the Voice. -/
def State.setOsc (o : Oscillator) (s : State) : State := s.setVoice { s.voice with osc := o }

/-- `OSC.SETFREQ` (40_oscillator.md R152). -/
def execOscSetfreq (f : Word) (s : State) : Host.Outcome State Fault Refusal :=
  .next (s.setOsc (s.voice.osc.setFreq s.cfg f))

/-- `OSC.SETWAVE` (40_oscillator.md R153). -/
def execOscSetwave (w : Word) (s : State) : Host.Outcome State Fault Refusal :=
  .next (s.setOsc (s.voice.osc.setWave w))

/-- `OSC.ADVANCE` (40_oscillator.md R161); its sample is what it returns (entry 10). -/
def execOscAdvance (s : State) : Host.Outcome State Fault Refusal :=
  .next ((s.setOsc s.voice.osc.advance.2).returns s.voice.osc.advance.1)

end Sys2Proof.Machine
end

