-- ==== Sys2Proof/Machine/Voice.lean ====
section
/-!
DEFINITION. The Voice (43_voice.md): its three operations and their rows of the opcode table.
-/

namespace Sys2Proof.Machine

/-- `VOICE.TRIGGER(F)` (43_voice.md R221); the phase and the filter history are not written. -/
def Voice.trigger (c : Config) (f : Word) (v : Voice) : Voice :=
  { v with frequency := f, osc := v.osc.setFreq c f, active := true, env := v.env.gateOn }

/-- `VOICE.RELEASE()` (43_voice.md R222). -/
def Voice.release (v : Voice) : Voice := { v with env := v.env.gateOff }

/-- The sample of one frame: filter, then level, then amplitude, two roundings (43_voice.md R223). -/
def Voice.sample (v : Voice) : Int :=
  qmul (qmul (v.flt.output v.osc.advance.1) v.env.tick.1) v.amplitude.toNat

/-- The Voice after one frame (43_voice.md R223, R224). -/
def Voice.afterSample (v : Voice) : Voice :=
  { v with osc := v.osc.advance.2, flt := (v.flt.process v.osc.advance.1).2, env := v.env.tick.2,
           active := activeAfter v.env.tick.2 v.active }

/-- `VOICE.RENDERSAMPLE() -> v` (43_voice.md R223). -/
def Voice.renderSample (v : Voice) : Int × Voice := (v.sample, v.afterSample)

/-- `VOICE.TRIGGER` (43_voice.md R221). -/
def execVoiceTrigger (f : Word) (s : State) : Host.Outcome State Fault Refusal :=
  .next (s.setVoice (s.voice.trigger s.cfg f))

/-- `VOICE.RELEASE` (43_voice.md R222). -/
def execVoiceRelease (s : State) : Host.Outcome State Fault Refusal := .next (s.setVoice s.voice.release)

/-- `VOICE.RENDERSAMPLE` (43_voice.md R223); its sample is what it returns (entry 10). -/
def execVoiceRendersample (s : State) : Host.Outcome State Fault Refusal :=
  .next ((s.setVoice s.voice.renderSample.2).returns s.voice.renderSample.1)

end Sys2Proof.Machine
end

