-- ==== Sys2Proof/Machine/Render.lean ====
section
/-!
DEFINITION. The Render Engine (44_render_engine.md): the block start and the per-frame render.
-/

namespace Sys2Proof.Machine

/-- Steps (1) to (4) of a block start: the registers derived from a snapshot
(44_render_engine.md R241). -/
def Voice.derive (c : Config) (b : Snapshot) (v : Voice) : Voice :=
  { v with osc := v.osc.setWave b.waveform
           flt := (v.flt.setCutoff c b.cutoff).setRes b.resonance
           env := v.env.setParams c b.attackMs b.decayMs b.sustain b.releaseMs }

/-- Step (5): the gate level becomes a trigger or a release on its edges (44_render_engine.md R243). -/
def Voice.gateEdge (c : Config) (freq : Word) (now before : Bool) (v : Voice) : Voice :=
  if now && !before then v.trigger c freq
  else if !now && before then v.release
  else v

/-- `RENDER.BLOCKSTART()` (44_render_engine.md R241). -/
def blockStart (s : State) : State :=
  let b := s.snap.published
  (s.setVoice ((s.voice.derive s.cfg b).gateEdge s.cfg b.noteFreq (gateOf b.gate) s.rend.prevGate)).setRend
    { s.rend with prevGate := gateOf b.gate }

/-- One frame of a running fill: render, convert, write both channels of the latched buffer, then
the index update (44_render_engine.md R245, R246). -/
def renderFrame (s : State) : Host.Outcome State Fault Refusal :=
  match frameWrite s.cfg s.sched.fillTarget s.rend.frameIdx.toNat (pcm s.voice.renderSample.1) s.out with
  | none => .fault .bufferWordOutOfRange
  | some m => .next (endFrame ((s.setVoice s.voice.renderSample.2).setOut m))

/-- `RENDER.BLOCKSTART` (44_render_engine.md R241). -/
def execRenderBlockstart (s : State) : Host.Outcome State Fault Refusal := .next (blockStart s)

/-- `RENDER.FRAME` (44_render_engine.md R245): no such step exists while no fill runs
(70_reset_and_hazards.md R382; entry 8). -/
def execRenderFrame (s : State) : Host.Outcome State Fault Refusal :=
  if s.sched.busy then renderFrame s else .refused .noFillRunning

end Sys2Proof.Machine
end

