-- ==== Sys2Proof/Machine/Scheduler.lean ====
section
/-!
DEFINITION. The Output Scheduler (45_output_scheduler.md): the event procedure, which is all there
is of an event's entry (60_exceptions.md R335), and the two event steps.
-/

namespace Sys2Proof.Machine

/-- Step (3) of an event: the fill of buffer `b` starts (45_output_scheduler.md R264). -/
def startFill (b : Buffer) (s : State) : State :=
  blockStart ((s.setSched { s.sched with own := b, busy := true, fillTarget := b }).setRend
    { s.rend with frameIdx := 0#15 })

/-- The underrun of an event: ownership follows the peripheral, the flag and the count record it,
the running fill goes on (45_output_scheduler.md R264, R267). -/
def missDeadline (b : Buffer) (s : State) : State := s.setSched (recordUnderrun { s.sched with own := b })

/-- `event(e)`, `e = 1` being buffer B (45_output_scheduler.md R264, R266). -/
def takeEvent (b : Buffer) (s : State) : State := if s.sched.busy then missDeadline b s else startFill b s

/-- `SCHED.HT` (45_output_scheduler.md R263). -/
def execSchedHt (s : State) : Host.Outcome State Fault Refusal := .next (takeEvent .B s)

/-- `SCHED.TC` (45_output_scheduler.md R265). -/
def execSchedTc (s : State) : Host.Outcome State Fault Refusal := .next (takeEvent .A s)

end Sys2Proof.Machine
end

