-- ==== Sys2Proof/Machine/HostAccess.lean ====
section
/-!
DEFINITION. The host interface (46_host_interface.md): one meaning for each register access. A read
changes nothing but the record of what reads returned (20_memory.md R90; entry 9).
-/

namespace Sys2Proof.Machine

/-- A read of a staging field (46_host_interface.md R301). -/
def readStaging (f : Field) (s : State) : State := s.hostReturns (s.snap.staging.get f)

/-- A read of a published field (46_host_interface.md R300). -/
def readPublished (f : Field) (s : State) : State := s.hostReturns (s.snap.published.get f)

/-- A write of a staging field: stored unchanged, no clamp (46_host_interface.md R293). -/
def writeStaging (f : Field) (v : Word) (s : State) : State :=
  s.setSnap (s.snap.setStaging (s.snap.staging.set f v))

/-- `R.STATUS` (46_host_interface.md R295). -/
def execReadStatus (_data : Word) (s : State) : Host.Outcome State Fault Refusal :=
  .next (s.hostReturns (statusWord s))

/-- `R.UNDERRUN_COUNT` (46_host_interface.md R296). -/
def execReadUnderrunCount (_data : Word) (s : State) : Host.Outcome State Fault Refusal :=
  .next (s.hostReturns s.sched.underrunCount)

/-- `R.AMPLITUDE` (46_host_interface.md R297). -/
def execReadAmplitude (_data : Word) (s : State) : Host.Outcome State Fault Refusal :=
  .next (s.hostReturns (s.voice.amplitude.setWidth 32))

/-- `W.AMPLITUDE` (46_host_interface.md R297). -/
def execWriteAmplitude (data : Word) (s : State) : Host.Outcome State Fault Refusal :=
  .next (s.setVoice { s.voice with amplitude := unitOf data })

/-- `W.NOTE_ON` (46_host_interface.md R298). -/
def execWriteNoteOn (data : Word) (s : State) : Host.Outcome State Fault Refusal :=
  .next (s.setVoice (s.voice.trigger s.cfg data))

/-- `W.NOTE_OFF` (46_host_interface.md R299). -/
def execWriteNoteOff (_data : Word) (s : State) : Host.Outcome State Fault Refusal :=
  .next (s.setVoice s.voice.release)

/-- `W.PUBLISH` (46_host_interface.md R294). -/
def execWritePublish (_data : Word) (s : State) : Host.Outcome State Fault Refusal :=
  .next (s.setSnap s.snap.publish)

/-- `W.WAVEFORM` (46_host_interface.md R293). -/
def execWriteWaveform (data : Word) (s : State) : Host.Outcome State Fault Refusal :=
  .next (writeStaging .waveform data s)

/-- `W.CUTOFF` (46_host_interface.md R293). -/
def execWriteCutoff (data : Word) (s : State) : Host.Outcome State Fault Refusal :=
  .next (writeStaging .cutoff data s)

/-- `W.RESONANCE` (46_host_interface.md R293). -/
def execWriteResonance (data : Word) (s : State) : Host.Outcome State Fault Refusal :=
  .next (writeStaging .resonance data s)

/-- `W.ATTACK_MS` (46_host_interface.md R293). -/
def execWriteAttackMs (data : Word) (s : State) : Host.Outcome State Fault Refusal :=
  .next (writeStaging .attackMs data s)

/-- `W.DECAY_MS` (46_host_interface.md R293). -/
def execWriteDecayMs (data : Word) (s : State) : Host.Outcome State Fault Refusal :=
  .next (writeStaging .decayMs data s)

/-- `W.SUSTAIN` (46_host_interface.md R293). -/
def execWriteSustain (data : Word) (s : State) : Host.Outcome State Fault Refusal :=
  .next (writeStaging .sustain data s)

/-- `W.RELEASE_MS` (46_host_interface.md R293). -/
def execWriteReleaseMs (data : Word) (s : State) : Host.Outcome State Fault Refusal :=
  .next (writeStaging .releaseMs data s)

/-- `W.NOTE_FREQ` (46_host_interface.md R293). -/
def execWriteNoteFreq (data : Word) (s : State) : Host.Outcome State Fault Refusal :=
  .next (writeStaging .noteFreq data s)

/-- `W.GATE` (46_host_interface.md R293). -/
def execWriteGate (data : Word) (s : State) : Host.Outcome State Fault Refusal :=
  .next (writeStaging .gate data s)

/-- `R.WAVEFORM` (46_host_interface.md R301). -/
def execReadWaveform (_data : Word) (s : State) : Host.Outcome State Fault Refusal :=
  .next (readStaging .waveform s)

/-- `R.CUTOFF` (46_host_interface.md R301). -/
def execReadCutoff (_data : Word) (s : State) : Host.Outcome State Fault Refusal :=
  .next (readStaging .cutoff s)

/-- `R.RESONANCE` (46_host_interface.md R301). -/
def execReadResonance (_data : Word) (s : State) : Host.Outcome State Fault Refusal :=
  .next (readStaging .resonance s)

/-- `R.ATTACK_MS` (46_host_interface.md R301). -/
def execReadAttackMs (_data : Word) (s : State) : Host.Outcome State Fault Refusal :=
  .next (readStaging .attackMs s)

/-- `R.DECAY_MS` (46_host_interface.md R301). -/
def execReadDecayMs (_data : Word) (s : State) : Host.Outcome State Fault Refusal :=
  .next (readStaging .decayMs s)

/-- `R.SUSTAIN` (46_host_interface.md R301). -/
def execReadSustain (_data : Word) (s : State) : Host.Outcome State Fault Refusal :=
  .next (readStaging .sustain s)

/-- `R.RELEASE_MS` (46_host_interface.md R301). -/
def execReadReleaseMs (_data : Word) (s : State) : Host.Outcome State Fault Refusal :=
  .next (readStaging .releaseMs s)

/-- `R.NOTE_FREQ` (46_host_interface.md R301). -/
def execReadNoteFreq (_data : Word) (s : State) : Host.Outcome State Fault Refusal :=
  .next (readStaging .noteFreq s)

/-- `R.GATE` (46_host_interface.md R301). -/
def execReadGate (_data : Word) (s : State) : Host.Outcome State Fault Refusal :=
  .next (readStaging .gate s)

/-- `R.PUB.WAVEFORM` (46_host_interface.md R300). -/
def execReadPubWaveform (_data : Word) (s : State) : Host.Outcome State Fault Refusal :=
  .next (readPublished .waveform s)

/-- `R.PUB.CUTOFF` (46_host_interface.md R300). -/
def execReadPubCutoff (_data : Word) (s : State) : Host.Outcome State Fault Refusal :=
  .next (readPublished .cutoff s)

/-- `R.PUB.RESONANCE` (46_host_interface.md R300). -/
def execReadPubResonance (_data : Word) (s : State) : Host.Outcome State Fault Refusal :=
  .next (readPublished .resonance s)

/-- `R.PUB.ATTACK_MS` (46_host_interface.md R300). -/
def execReadPubAttackMs (_data : Word) (s : State) : Host.Outcome State Fault Refusal :=
  .next (readPublished .attackMs s)

/-- `R.PUB.DECAY_MS` (46_host_interface.md R300). -/
def execReadPubDecayMs (_data : Word) (s : State) : Host.Outcome State Fault Refusal :=
  .next (readPublished .decayMs s)

/-- `R.PUB.SUSTAIN` (46_host_interface.md R300). -/
def execReadPubSustain (_data : Word) (s : State) : Host.Outcome State Fault Refusal :=
  .next (readPublished .sustain s)

/-- `R.PUB.RELEASE_MS` (46_host_interface.md R300). -/
def execReadPubReleaseMs (_data : Word) (s : State) : Host.Outcome State Fault Refusal :=
  .next (readPublished .releaseMs s)

/-- `R.PUB.NOTE_FREQ` (46_host_interface.md R300). -/
def execReadPubNoteFreq (_data : Word) (s : State) : Host.Outcome State Fault Refusal :=
  .next (readPublished .noteFreq s)

/-- `R.PUB.GATE` (46_host_interface.md R300). -/
def execReadPubGate (_data : Word) (s : State) : Host.Outcome State Fault Refusal :=
  .next (readPublished .gate s)

/-- `RESERVED.ACCESS`: no effect; a read returns 0 (30_encoding.md R137). -/
def execReservedAccess (we : Bool) (_addr : Offset) (_data : Word) (s : State) : Host.Outcome State Fault Refusal :=
  .next (if we then s else s.hostReturns 0#32)

end Sys2Proof.Machine
end

