-- ==== Sys2Proof/Machine/Dispatch.lean ====
section
/-!
DEFINITION. One arm per operation of the opcode table.
-/

namespace Sys2Proof.Machine

def exec (i : Instr) (s : State) : Host.Outcome State Fault Refusal :=
  match i with
  | .readStatus data => Sys2Proof.Machine.execReadStatus data s
  | .readUnderrunCount data => Sys2Proof.Machine.execReadUnderrunCount data s
  | .readAmplitude data => Sys2Proof.Machine.execReadAmplitude data s
  | .writeAmplitude data => Sys2Proof.Machine.execWriteAmplitude data s
  | .writeNoteOn data => Sys2Proof.Machine.execWriteNoteOn data s
  | .writeNoteOff data => Sys2Proof.Machine.execWriteNoteOff data s
  | .writePublish data => Sys2Proof.Machine.execWritePublish data s
  | .writeWaveform data => Sys2Proof.Machine.execWriteWaveform data s
  | .writeCutoff data => Sys2Proof.Machine.execWriteCutoff data s
  | .writeResonance data => Sys2Proof.Machine.execWriteResonance data s
  | .writeAttackMs data => Sys2Proof.Machine.execWriteAttackMs data s
  | .writeDecayMs data => Sys2Proof.Machine.execWriteDecayMs data s
  | .writeSustain data => Sys2Proof.Machine.execWriteSustain data s
  | .writeReleaseMs data => Sys2Proof.Machine.execWriteReleaseMs data s
  | .writeNoteFreq data => Sys2Proof.Machine.execWriteNoteFreq data s
  | .writeGate data => Sys2Proof.Machine.execWriteGate data s
  | .readWaveform data => Sys2Proof.Machine.execReadWaveform data s
  | .readCutoff data => Sys2Proof.Machine.execReadCutoff data s
  | .readResonance data => Sys2Proof.Machine.execReadResonance data s
  | .readAttackMs data => Sys2Proof.Machine.execReadAttackMs data s
  | .readDecayMs data => Sys2Proof.Machine.execReadDecayMs data s
  | .readSustain data => Sys2Proof.Machine.execReadSustain data s
  | .readReleaseMs data => Sys2Proof.Machine.execReadReleaseMs data s
  | .readNoteFreq data => Sys2Proof.Machine.execReadNoteFreq data s
  | .readGate data => Sys2Proof.Machine.execReadGate data s
  | .readPubWaveform data => Sys2Proof.Machine.execReadPubWaveform data s
  | .readPubCutoff data => Sys2Proof.Machine.execReadPubCutoff data s
  | .readPubResonance data => Sys2Proof.Machine.execReadPubResonance data s
  | .readPubAttackMs data => Sys2Proof.Machine.execReadPubAttackMs data s
  | .readPubDecayMs data => Sys2Proof.Machine.execReadPubDecayMs data s
  | .readPubSustain data => Sys2Proof.Machine.execReadPubSustain data s
  | .readPubReleaseMs data => Sys2Proof.Machine.execReadPubReleaseMs data s
  | .readPubNoteFreq data => Sys2Proof.Machine.execReadPubNoteFreq data s
  | .readPubGate data => Sys2Proof.Machine.execReadPubGate data s
  | .reservedAccess we addr data => Sys2Proof.Machine.execReservedAccess we addr data s
  | .schedHt => Sys2Proof.Machine.execSchedHt s
  | .schedTc => Sys2Proof.Machine.execSchedTc s
  | .renderFrame => Sys2Proof.Machine.execRenderFrame s
  | .renderBlockstart => Sys2Proof.Machine.execRenderBlockstart s
  | .oscSetfreq f => Sys2Proof.Machine.execOscSetfreq f s
  | .oscSetwave w => Sys2Proof.Machine.execOscSetwave w s
  | .oscAdvance => Sys2Proof.Machine.execOscAdvance s
  | .fltSetcutoff c => Sys2Proof.Machine.execFltSetcutoff c s
  | .fltSetres r => Sys2Proof.Machine.execFltSetres r s
  | .fltProcess x => Sys2Proof.Machine.execFltProcess x s
  | .envSetparams a d sl rl => Sys2Proof.Machine.execEnvSetparams a d sl rl s
  | .envGateon => Sys2Proof.Machine.execEnvGateon s
  | .envGateoff => Sys2Proof.Machine.execEnvGateoff s
  | .envTick => Sys2Proof.Machine.execEnvTick s
  | .voiceTrigger f => Sys2Proof.Machine.execVoiceTrigger f s
  | .voiceRelease => Sys2Proof.Machine.execVoiceRelease s
  | .voiceRendersample => Sys2Proof.Machine.execVoiceRendersample s
  | .reset => Sys2Proof.Machine.execReset s
  | .txFrame => Sys2Proof.Machine.execTxFrame s

end Sys2Proof.Machine
end

