-- ==== Sys2Proof/WellFormed.lean ====
section
/-!
DEFINITION. Well-formed operations: a reserved access names no existing (`we`, `addr`) pair
(30_encoding.md R137), and the input of `FLT.PROCESS` is a sample in range (41_filter.md R175).
Every other operand may hold any pattern (30_encoding.md R138).
-/

namespace Sys2Proof

/-- The offsets of the nine staging registers (30_encoding.md R118). -/
def Offset.isStaging (a : Offset) : Bool := 0x20 ≤ a.toNat && a.toNat ≤ 0x40 && a.toNat % 4 == 0

/-- The offsets of the nine published registers (30_encoding.md R118). -/
def Offset.isPublished (a : Offset) : Bool := 0x60 ≤ a.toNat && a.toNat ≤ 0x80 && a.toNat % 4 == 0

/-- The registers a read returns something of: `RO` and `RW` in 30_encoding.md R118. -/
def Offset.isReadable (a : Offset) : Bool :=
  a == 0x00#8 || a == 0x04#8 || a == 0x08#8 || a.isStaging || a.isPublished

/-- The registers a write acts on: `RW` and `WO` in 30_encoding.md R118. -/
def Offset.isWritable (a : Offset) : Bool :=
  a == 0x08#8 || a == 0x0C#8 || a == 0x10#8 || a == 0x14#8 || a.isStaging

/-- No row of the register map has this (`we`, `addr`) pair (30_encoding.md R137). -/
def isReserved (we : Bool) (a : Offset) : Bool := if we then !a.isWritable else !a.isReadable

/-- `-ONE <= x <= ONE` (41_filter.md R175). -/
def isSample (x : Int) : Bool := -Config.one ≤ x && x ≤ Config.one

/-- The operands are ones the spec gives the operation. -/
def Instr.wf : Instr → Bool
  | .readStatus _ => true
  | .readUnderrunCount _ => true
  | .readAmplitude _ => true
  | .writeAmplitude _ => true
  | .writeNoteOn _ => true
  | .writeNoteOff _ => true
  | .writePublish _ => true
  | .writeWaveform _ => true
  | .writeCutoff _ => true
  | .writeResonance _ => true
  | .writeAttackMs _ => true
  | .writeDecayMs _ => true
  | .writeSustain _ => true
  | .writeReleaseMs _ => true
  | .writeNoteFreq _ => true
  | .writeGate _ => true
  | .readWaveform _ => true
  | .readCutoff _ => true
  | .readResonance _ => true
  | .readAttackMs _ => true
  | .readDecayMs _ => true
  | .readSustain _ => true
  | .readReleaseMs _ => true
  | .readNoteFreq _ => true
  | .readGate _ => true
  | .readPubWaveform _ => true
  | .readPubCutoff _ => true
  | .readPubResonance _ => true
  | .readPubAttackMs _ => true
  | .readPubDecayMs _ => true
  | .readPubSustain _ => true
  | .readPubReleaseMs _ => true
  | .readPubNoteFreq _ => true
  | .readPubGate _ => true
  | .reservedAccess we addr _ => isReserved we addr
  | .schedHt => true
  | .schedTc => true
  | .renderFrame => true
  | .renderBlockstart => true
  | .oscSetfreq _ => true
  | .oscSetwave _ => true
  | .oscAdvance => true
  | .fltSetcutoff _ => true
  | .fltSetres _ => true
  | .fltProcess x => isSample x
  | .envSetparams _ _ _ _ => true
  | .envGateon => true
  | .envGateoff => true
  | .envTick => true
  | .voiceTrigger _ => true
  | .voiceRelease => true
  | .voiceRendersample => true
  | .reset => true
  | .txFrame => true

end Sys2Proof
end

