-- ==== Sys2Proof/Decode.lean ====
section
/-!
DEFINITION. Decoding a raw trace entry, and the encoder (30_encoding.md R110 to R113, R118, R137).
-/

namespace Sys2Proof

/-- Why a raw entry is no word of its port. -/
inductive DecodeError where
  /-- A host word of more than 41 bits (93_implementation_defined.md X2). -/
  | wideTransaction
  /-- An event word of more than 2 bits (30_encoding.md R113). -/
  | wideEvent
deriving DecidableEq, Repr

/-- What a raw entry stands for. -/
inductive Decoded where
  /-- The operation of this step, and the entries that must follow it at once: `EVT = 3` is `HT`
  and then `TC` (60_exceptions.md R331). -/
  | instr (i : Instr) (after : List Signal)
  /-- `EVT = 0`, the absence of an event (30_encoding.md R113; entry 6). -/
  | noStep
  | rejected (why : DecodeError)
deriving DecidableEq, Repr

/-- `X[40]`, the write bit (30_encoding.md R111). -/
def hostWe (x : Nat) : Bool := x / 2 ^ 40 % 2 == 1

/-- `X[39:32]`, the byte offset (30_encoding.md R111). -/
def hostAddr (x : Nat) : Offset := BitVec.ofNat 8 (x / 2 ^ 32)

/-- `X[31:0]`, the data (30_encoding.md R111). -/
def hostData (x : Nat) : Word := BitVec.ofNat 32 x

/-- `X = we * 2^40 + addr * 2^32 + data` (30_encoding.md R111). -/
def hostWord (we : Bool) (addr : Offset) (data : Word) : Nat :=
  we.toNat * 2 ^ 40 + addr.toNat * 2 ^ 32 + data.toNat

/-- A row of the opcode table's `HX` part: the pair it matches and the operation of its data. -/
structure HostRow where
  we : Bool
  addr : Offset
  make : Word → Instr

/-- The read rows of the opcode table (30_encoding.md R112, R118). -/
def readRows : List HostRow := [
  ⟨false, 0x00#8, .readStatus⟩,
  ⟨false, 0x04#8, .readUnderrunCount⟩,
  ⟨false, 0x08#8, .readAmplitude⟩,
  ⟨false, 0x20#8, .readWaveform⟩,
  ⟨false, 0x24#8, .readCutoff⟩,
  ⟨false, 0x28#8, .readResonance⟩,
  ⟨false, 0x2C#8, .readAttackMs⟩,
  ⟨false, 0x30#8, .readDecayMs⟩,
  ⟨false, 0x34#8, .readSustain⟩,
  ⟨false, 0x38#8, .readReleaseMs⟩,
  ⟨false, 0x3C#8, .readNoteFreq⟩,
  ⟨false, 0x40#8, .readGate⟩,
  ⟨false, 0x60#8, .readPubWaveform⟩,
  ⟨false, 0x64#8, .readPubCutoff⟩,
  ⟨false, 0x68#8, .readPubResonance⟩,
  ⟨false, 0x6C#8, .readPubAttackMs⟩,
  ⟨false, 0x70#8, .readPubDecayMs⟩,
  ⟨false, 0x74#8, .readPubSustain⟩,
  ⟨false, 0x78#8, .readPubReleaseMs⟩,
  ⟨false, 0x7C#8, .readPubNoteFreq⟩,
  ⟨false, 0x80#8, .readPubGate⟩]

/-- The write rows of the opcode table (30_encoding.md R112, R118). -/
def writeRows : List HostRow := [
  ⟨true, 0x08#8, .writeAmplitude⟩,
  ⟨true, 0x0C#8, .writeNoteOn⟩,
  ⟨true, 0x10#8, .writeNoteOff⟩,
  ⟨true, 0x14#8, .writePublish⟩,
  ⟨true, 0x20#8, .writeWaveform⟩,
  ⟨true, 0x24#8, .writeCutoff⟩,
  ⟨true, 0x28#8, .writeResonance⟩,
  ⟨true, 0x2C#8, .writeAttackMs⟩,
  ⟨true, 0x30#8, .writeDecayMs⟩,
  ⟨true, 0x34#8, .writeSustain⟩,
  ⟨true, 0x38#8, .writeReleaseMs⟩,
  ⟨true, 0x3C#8, .writeNoteFreq⟩,
  ⟨true, 0x40#8, .writeGate⟩]

/-- The first row with this (`we`, `addr`) pair gives the operation; a pair without a row is a
reserved access (30_encoding.md R112, R137). -/
def pickRow (we : Bool) (addr : Offset) (data : Word) : List HostRow → Instr
  | [] => .reservedAccess we addr data
  | row :: rest => if row.we = we ∧ row.addr = addr then row.make data else pickRow we addr data rest

/-- The operation of a transaction's three fields. -/
def decodeFields (we : Bool) (addr : Offset) (data : Word) : Instr :=
  pickRow we addr data (if we then writeRows else readRows)

/-- Decodes a host word (30_encoding.md R111, R112). -/
def decodeHost (x : Nat) : Decoded :=
  if x < 2 ^ 41 then .instr (decodeFields (hostWe x) (hostAddr x) (hostData x)) []
  else .rejected .wideTransaction

/-- Decodes an event word (30_encoding.md R113, 60_exceptions.md R331). -/
def decodeEvent : Nat → Decoded
  | 0 => .noStep
  | 1 => .instr .schedHt []
  | 2 => .instr .schedTc []
  | 3 => .instr .schedHt [.event 2]
  | _ => .rejected .wideEvent

/-- Decodes any raw entry; total. -/
def decode : Signal → Decoded
  | .host x => decodeHost x
  | .event e => decodeEvent e
  | .frame => .instr .renderFrame []
  | .reset => .instr .reset []
  | .transmit => .instr .txFrame []

/-- The raw entry that presents an operation, for the operations that are steps of their own
(00_scope.md R21); the table's other `internal` rows have encoding "none". -/
def encode : Instr → Option Signal
  | .readStatus data => some (.host (hostWord false 0x00#8 data))
  | .readUnderrunCount data => some (.host (hostWord false 0x04#8 data))
  | .readAmplitude data => some (.host (hostWord false 0x08#8 data))
  | .writeAmplitude data => some (.host (hostWord true 0x08#8 data))
  | .writeNoteOn data => some (.host (hostWord true 0x0C#8 data))
  | .writeNoteOff data => some (.host (hostWord true 0x10#8 data))
  | .writePublish data => some (.host (hostWord true 0x14#8 data))
  | .writeWaveform data => some (.host (hostWord true 0x20#8 data))
  | .writeCutoff data => some (.host (hostWord true 0x24#8 data))
  | .writeResonance data => some (.host (hostWord true 0x28#8 data))
  | .writeAttackMs data => some (.host (hostWord true 0x2C#8 data))
  | .writeDecayMs data => some (.host (hostWord true 0x30#8 data))
  | .writeSustain data => some (.host (hostWord true 0x34#8 data))
  | .writeReleaseMs data => some (.host (hostWord true 0x38#8 data))
  | .writeNoteFreq data => some (.host (hostWord true 0x3C#8 data))
  | .writeGate data => some (.host (hostWord true 0x40#8 data))
  | .readWaveform data => some (.host (hostWord false 0x20#8 data))
  | .readCutoff data => some (.host (hostWord false 0x24#8 data))
  | .readResonance data => some (.host (hostWord false 0x28#8 data))
  | .readAttackMs data => some (.host (hostWord false 0x2C#8 data))
  | .readDecayMs data => some (.host (hostWord false 0x30#8 data))
  | .readSustain data => some (.host (hostWord false 0x34#8 data))
  | .readReleaseMs data => some (.host (hostWord false 0x38#8 data))
  | .readNoteFreq data => some (.host (hostWord false 0x3C#8 data))
  | .readGate data => some (.host (hostWord false 0x40#8 data))
  | .readPubWaveform data => some (.host (hostWord false 0x60#8 data))
  | .readPubCutoff data => some (.host (hostWord false 0x64#8 data))
  | .readPubResonance data => some (.host (hostWord false 0x68#8 data))
  | .readPubAttackMs data => some (.host (hostWord false 0x6C#8 data))
  | .readPubDecayMs data => some (.host (hostWord false 0x70#8 data))
  | .readPubSustain data => some (.host (hostWord false 0x74#8 data))
  | .readPubReleaseMs data => some (.host (hostWord false 0x78#8 data))
  | .readPubNoteFreq data => some (.host (hostWord false 0x7C#8 data))
  | .readPubGate data => some (.host (hostWord false 0x80#8 data))
  | .reservedAccess we addr data => some (.host (hostWord we addr data))
  | .schedHt => some (.event 1)
  | .schedTc => some (.event 2)
  | .renderFrame => some .frame
  | .renderBlockstart => none
  | .oscSetfreq _ => none
  | .oscSetwave _ => none
  | .oscAdvance => none
  | .fltSetcutoff _ => none
  | .fltSetres _ => none
  | .fltProcess _ => none
  | .envSetparams _ _ _ _ => none
  | .envGateon => none
  | .envGateoff => none
  | .envTick => none
  | .voiceTrigger _ => none
  | .voiceRelease => none
  | .voiceRendersample => none
  | .reset => some .reset
  | .txFrame => some .transmit

/-- The raw entry a table row's word stands for: a row of at most one byte is an `EV` row, any other
an `HX` row (entry 18). -/
def wordSignal (nbits w : Nat) : Signal := if nbits ≤ 8 then .event w else .host w

/-- The operation the decoder reads from the word `w` of an `nbits`-bit row of the opcode table. -/
def decodeTableWord (nbits w : Nat) : Option Instr :=
  match decode (wordSignal nbits w) with
  | .instr i _ => some i
  | .noStep => none
  | .rejected _ => none

end Sys2Proof
end

