-- ==== Sys2Proof/Machine/Fetch.lean ====
section
/-!
DEFINITION. Which operation comes next (20_memory.md R93; 10_state.md R50): the head of the trace,
and with an empty trace the render agent's own frame while a fill runs (entries 1, 2).
-/

namespace Sys2Proof.Machine

/-- What the next step is. -/
inductive Fetched where
  /-- An operation, and the state it runs in. -/
  | run (i : Instr) (s : State)
  /-- No operation: nothing happens but this. -/
  | pass (s : State)
  | refuse (r : Refusal)

/-- Why a raw entry that is no word of its port is refused (93_implementation_defined.md X2). -/
def refusalOf : DecodeError → Refusal
  | .wideTransaction => .wideTransaction
  | .wideEvent => .wideEvent

/-- With nothing presented, the render agent renders its next frame if a fill runs, else the block
holds all its state (60_exceptions.md R352; 70_reset_and_hazards.md R361; entry 2). -/
def fetchOwn (s : State) : Fetched := if s.sched.busy then .run .renderFrame s else .pass s

/-- The head of the trace is consumed; what must follow it at once takes its place (entry 5). -/
def fetchSignal (sig : Signal) (rest : List Signal) (s : State) : Fetched :=
  match decode sig with
  | .instr i after => .run i (s.setTrace (after ++ rest))
  | .noStep => .pass (s.setTrace rest)
  | .rejected why => .refuse (refusalOf why)

/-- The next step of the total order. -/
def fetch (s : State) : Fetched :=
  match s.trace with
  | [] => fetchOwn s
  | sig :: rest => fetchSignal sig rest s

/-- The word of an opcode-table row presented as the very next step (entry 3). -/
def presentWord (nbits w : Nat) (s : State) : State := s.setTrace (wordSignal nbits w :: s.trace)

end Sys2Proof.Machine
end

