-- ==== Sys2Proof/Machine/Step.lean ====
section
/-!
DEFINITION. One step of the total order (20_memory.md R93).
-/

namespace Sys2Proof.Machine

/-- One atomic step (00_scope.md R21). -/
def step (s : State) : Host.Outcome State Fault Refusal :=
  match fetch s with
  | .run i t => exec i t
  | .pass t => .next t
  | .refuse r => .refused r

/-- `s` with the word `w` of an `nbits`-bit opcode-table row presented as its very next step: the
word stands at the head of the trace (entry 3). -/
def State.withFetchWord (s : State) (nbits w : Nat) : State := presentWord nbits w s

end Sys2Proof.Machine
end

