-- ==== Sys2Proof/Safety.lean ====
section
/-!
DEFINITION. What counts as a safe state and a safe run, in the terms the statements use: the
invariants the spec states of its registers (10_state.md R30 to R55), and runs of named operations.
-/

namespace Sys2Proof.Machine

/-- A ramping stage: the level is short of the target and the increment points at it
(10_state.md R42 (d)). -/
abbrev Envelope.Ramping (e : Envelope) : Prop :=
  e.level ≠ e.target ∧ e.increment ≠ 0#32 ∧ (0 < e.increment.toInt ↔ e.level.toNat < e.target.toNat)

/-- What each stage says of the level, increment and target (10_state.md R42 (b) to (e)). That a Decay
ramps down is R42's "`level` is monotonic within Attack (increasing) and within Decay/Release
(decreasing)". -/
def Envelope.StageOk (e : Envelope) : Prop :=
  match e.stage with
  | .idle => e.level = 0#31 ∧ e.increment = 0#32 ∧ e.target = 0#31
  | .attack => e.Ramping ∧ e.target = levelOne
  | .decay => e.Ramping ∧ e.target.toNat < e.level.toNat
  | .sustain => e.increment = 0#32 ∧ e.target = e.level
  | .release => e.Ramping ∧ e.target = 0#31

/-- The envelope's legal values (10_state.md R37 to R42). -/
structure Envelope.Ok (c : Config) (e : Envelope) : Prop where
  level : e.level.toNat ≤ Config.oneNat
  target : e.target.toNat ≤ Config.oneNat
  sustain : e.sustainLevel.toNat ≤ Config.oneNat
  increment : -Config.one ≤ e.increment.toInt ∧ e.increment.toInt ≤ Config.one
  attack : e.attackTime.toNat ≤ Config.msMax * c.sampleRate / 1000
  decay : e.decayTime.toNat ≤ Config.msMax * c.sampleRate / 1000
  release : e.releaseTime.toNat ≤ Config.msMax * c.sampleRate / 1000
  stage : e.StageOk

/-- The filter's legal values (10_state.md R33 to R35). -/
structure Filter.Ok (f : Filter) : Prop where
  coefficient : 1 ≤ f.cutoffCoefficient.toNat ∧ f.cutoffCoefficient.toNat ≤ Config.oneNat
  resonance : f.resonance.toNat ≤ Config.resMax
  history : -Config.one ≤ f.previousOutput.toInt ∧ f.previousOutput.toInt ≤ Config.one

/-- The Voice's legal values (10_state.md R33 to R44). -/
structure Voice.Ok (c : Config) (v : Voice) : Prop where
  flt : v.flt.Ok
  env : v.env.Ok c
  amplitude : v.amplitude.toNat ≤ Config.oneNat

/-- The sequencing registers agree: the frame index is inside the block and 0 between fills
(10_state.md R51); the flag is set exactly when the count is not 0 (R55); without an underrun the
fill target is the buffer software owns, during a fill and between fills (10_state.md R54;
45_output_scheduler.md R270). -/
structure SequencingOk (s : State) : Prop where
  index : s.rend.frameIdx.toNat < s.cfg.bufFrames
  rest : s.sched.busy = false → s.rend.frameIdx = 0#15
  record : s.sched.underrunFlag = true ↔ 0 < s.sched.underrunCount.toNat
  owned : s.sched.underrunFlag = false → s.sched.fillTarget = s.sched.own

/-- The loop is in its canonical form and lists no byte outside its `8 * BUF_FRAMES` bytes
(20_memory.md R82, R85). -/
structure Memory.Ok (c : Config) (m : Memory) : Prop where
  form : m.wf = true
  inside : ∀ a, 8 * c.bufFrames ≤ a → m.read a = unlistedByte

/-- A state in which every register holds a legal value; every reachable state is one. -/
structure State.Ok (s : State) : Prop where
  cfg : s.cfg.Legal
  voice : s.voice.Ok s.cfg
  sequencing : SequencingOk s
  out : s.out.Ok s.cfg
  txPos : s.txPos < 2 * s.cfg.bufFrames

/-- Runs operations one after another, stopping at the first stop. -/
def execAll : List Instr → State → Host.Outcome State Fault Refusal
  | [], s => .next s
  | i :: rest, s =>
    match exec i s with
    | .next t => execAll rest t
    | .fault r => .fault r
    | .refused r => .refused r

/-- Runs `n` steps, stopping at the first stop. -/
def runSteps : Nat → State → Host.Outcome State Fault Refusal
  | 0, s => .next s
  | n + 1, s =>
    match step s with
    | .next t => runSteps n t
    | .fault r => .fault r
    | .refused r => .refused r

/-- `n` ticks of the envelope (42_envelope.md R199). -/
def Envelope.ticks : Nat → Envelope → Envelope
  | 0, e => e
  | n + 1, e => Envelope.ticks n e.tick.2

/-- What the completion of Attack leaves, `complete(Attack)` written out (42_envelope.md R195, R196):
a Decay of no samples jumps to the sustain level, one with nothing to ramp is passed through, any
other ramps down from `ONE` with its increment rounded away from zero. -/
def Envelope.AttackCompleted (e e' : Envelope) : Prop :=
  (e.decayTime = 0#32 → e' = { e with
      stage := .sustain, level := e.sustainLevel, target := e.sustainLevel, increment := 0#32 }) ∧
  (e.decayTime ≠ 0#32 → e.sustainLevel = levelOne → e' = { e with
      stage := .sustain, level := levelOne, target := levelOne, increment := 0#32 }) ∧
  (e.decayTime ≠ 0#32 → e.sustainLevel ≠ levelOne → e' = { e with
      stage := .decay, level := levelOne, target := e.sustainLevel
      increment := BitVec.ofInt 32
        (-((Config.one - e.sustainLevel.toNat + e.decayTime.toNat - 1) / e.decayTime.toNat)) })

/-- The state with the staging bank changed by `g` (10_state.md R57). -/
def stagingChanged (g : Snapshot → Snapshot) (s : State) : State :=
  if s.snap.pubIdx then { s with snap := { s.snap with bank0 := g s.snap.bank0 } }
  else { s with snap := { s.snap with bank1 := g s.snap.bank1 } }

/-- The state with one more value returned to the host. -/
def hostRead (v : Word) (s : State) : State :=
  { s with obs := { s.obs with reads := s.obs.reads ++ [v] } }

/-- `bank[1 - snap.pubIdx]` (10_state.md R57). -/
def stagingBank (s : State) : Snapshot := if s.snap.pubIdx then s.snap.bank0 else s.snap.bank1

/-- `bank[snap.pubIdx]` (10_state.md R57). -/
def publishedBank (s : State) : Snapshot := if s.snap.pubIdx then s.snap.bank1 else s.snap.bank0

/-- The phase increment of a frequency (40_oscillator.md R152). -/
def specIncrement (c : Config) (f : Word) : BitVec 32 :=
  if f.toInt ≤ 0 then 0#32 else BitVec.ofNat 32 (f.toNat * 65536 / c.sampleRate)

/-- The frames of the whole loop, in transmit order (20_memory.md R82). -/
def loopFrames (c : Config) (m : Memory) : List (Half × Half) :=
  (List.range (2 * c.bufFrames)).map fun f => (m.readHalf (2 * f), m.readHalf (2 * f + 1))

/-- The deadline-met premise (45_output_scheduler.md R278) on a trace, for buffers of `b` frames, with
`k` frames transmitted since the last event and `left` frames of the running fill to come: all frames
of a fill occur before the `TX.FRAME` that raises the next event, in any interleaving with the
transmit steps and with host accesses. The events themselves are raised by the transmit steps
(entry 5). -/
def deadlineMet (b k left : Nat) : List Signal → Bool
  | [] => true
  | .host x :: rest => decide (x < 2 ^ 41) && deadlineMet b k left rest
  | .event _ :: _ => false
  | .frame :: rest => decide (0 < left) && deadlineMet b k (left - 1) rest
  | .reset :: _ => false
  | .transmit :: rest =>
    if k + 1 = b then decide (left = 0) && deadlineMet b 0 b rest else deadlineMet b (k + 1) left rest

/-- The Voice after `n` frames (44_render_engine.md R249). -/
def Voice.frames : Nat → Voice → Voice
  | 0, v => v
  | n + 1, v => Voice.frames n v.afterSample

/-- The first `n` frames a Voice renders, as they are transmitted (44_render_engine.md R245). -/
def renderedFrames (n : Nat) (v : Voice) : List (Half × Half) :=
  (List.range n).map fun k =>
    (pcmWord (pcm (Voice.frames k v).sample), pcmWord (pcm (Voice.frames k v).sample))

/-- The frames that the `RENDER.FRAME` entries among the next `n` steps render, oldest first: the
`r(1), r(2), ...` of 45_output_scheduler.md R279, each in both channels. -/
def producedFrames : Nat → State → List (Half × Half)
  | 0, _ => []
  | n + 1, s =>
    (if s.trace.head? = some .frame then [(pcmWord (pcm s.voice.sample), pcmWord (pcm s.voice.sample))] else []) ++
      match step s with
      | .next t => producedFrames n t
      | .fault _ => []
      | .refused _ => []

end Sys2Proof.Machine
end

