-- ==== Sys2Proof/Certificates/Slice0/Obligations.lean ====
section
/-!
DEFINITION. The statements for the provers, each formalising what the spec says the block does. A
statement that rests on a choice of the model says so and names the log entry.
-/

open Sys2Proof Sys2Proof.Machine

/-- O1. A step runs the operation its raw entry decodes to (00_scope.md R21, 20_memory.md R93). The
model's choice of how the total order is held (entries 1, 5): when the head of the trace decodes to
a well-formed operation, the step is exec of it in the state whose trace has lost that head and
gained what must follow at once. -/
def Obligations.StepRunsTheDecodedInstruction : Prop :=
  ∀ (s : State) (sig : Signal) (rest after : List Signal) (i : Instr),
    s.trace = sig :: rest → decode sig = .instr i after → i.wf = true →
      step s = exec i { s with trace := after ++ rest }

/-- O2. What a step does when no operation is presented (60_exceptions.md R352, 70_reset_and_hazards.md
R361, 93_implementation_defined.md X2, 93_implementation_defined.md X3). The model's choices
(entries 2, 6, 7): with an empty trace the render agent renders its next frame while a fill runs and
nothing happens otherwise; the absence of an event is dropped; a word wider than its port is refused
by name. -/
def Obligations.StepWithoutAnInstruction : Prop :=
  ∀ (s : State) (sig : Signal) (rest : List Signal),
    (s.trace = [] → s.sched.busy = true → step s = exec .renderFrame s) ∧
    (s.trace = [] → s.sched.busy = false → step s = .next s) ∧
    (s.trace = sig :: rest → decode sig = .noStep → step s = .next { s with trace := rest }) ∧
    (s.trace = sig :: rest → decode sig = .rejected .wideTransaction → step s = .refused .wideTransaction) ∧
    (s.trace = sig :: rest → decode sig = .rejected .wideEvent → step s = .refused .wideEvent)

/-- O3. A presented table word is run by the very next step (30_encoding.md R110). The model's own
placing of a word (entry 3): if the decoder reads operation i from an nbits-bit word w, the step of
s.withFetchWord nbits w is exec of i, the rest of the trace unchanged. -/
def Obligations.PresentedWordRunsNext : Prop :=
  ∀ (s : State) (nbits w : Nat) (i : Instr), decodeTableWord nbits w = some i →
    ∃ after, decode (wordSignal nbits w) = .instr i after ∧
      step (s.withFetchWord nbits w) = exec i { s with trace := after ++ s.trace }

/-- O4. Every row of the register map decodes at its offset, and so do the words of V-ENC-1
(30_encoding.md R118, 30_encoding.md R111, 30_encoding.md R112, 95_test_vectors.md V-ENC-1). For
every access that the register map R118 gives one of its 24 registers (21 reads and 13 writes), the
word of its direction and offset decodes to that access, for every data word; and the ten 41-bit
words that the spec writes out decode to the accesses it names. That a decoded access carries also
the data the block ignores is entry 17. -/
def Obligations.SpecWordsDecode : Prop :=
  (∀ data : Word,
    decode (.host (0x00000000000 + data.toNat)) = .instr (.readStatus data) [] ∧
    decode (.host (0x00400000000 + data.toNat)) = .instr (.readUnderrunCount data) [] ∧
    decode (.host (0x00800000000 + data.toNat)) = .instr (.readAmplitude data) [] ∧
    decode (.host (0x10800000000 + data.toNat)) = .instr (.writeAmplitude data) [] ∧
    decode (.host (0x10C00000000 + data.toNat)) = .instr (.writeNoteOn data) [] ∧
    decode (.host (0x11000000000 + data.toNat)) = .instr (.writeNoteOff data) [] ∧
    decode (.host (0x11400000000 + data.toNat)) = .instr (.writePublish data) [] ∧
    decode (.host (0x02000000000 + data.toNat)) = .instr (.readWaveform data) [] ∧
    decode (.host (0x12000000000 + data.toNat)) = .instr (.writeWaveform data) [] ∧
    decode (.host (0x02400000000 + data.toNat)) = .instr (.readCutoff data) [] ∧
    decode (.host (0x12400000000 + data.toNat)) = .instr (.writeCutoff data) [] ∧
    decode (.host (0x02800000000 + data.toNat)) = .instr (.readResonance data) [] ∧
    decode (.host (0x12800000000 + data.toNat)) = .instr (.writeResonance data) [] ∧
    decode (.host (0x02C00000000 + data.toNat)) = .instr (.readAttackMs data) [] ∧
    decode (.host (0x12C00000000 + data.toNat)) = .instr (.writeAttackMs data) [] ∧
    decode (.host (0x03000000000 + data.toNat)) = .instr (.readDecayMs data) [] ∧
    decode (.host (0x13000000000 + data.toNat)) = .instr (.writeDecayMs data) [] ∧
    decode (.host (0x03400000000 + data.toNat)) = .instr (.readSustain data) [] ∧
    decode (.host (0x13400000000 + data.toNat)) = .instr (.writeSustain data) [] ∧
    decode (.host (0x03800000000 + data.toNat)) = .instr (.readReleaseMs data) [] ∧
    decode (.host (0x13800000000 + data.toNat)) = .instr (.writeReleaseMs data) [] ∧
    decode (.host (0x03C00000000 + data.toNat)) = .instr (.readNoteFreq data) [] ∧
    decode (.host (0x13C00000000 + data.toNat)) = .instr (.writeNoteFreq data) [] ∧
    decode (.host (0x04000000000 + data.toNat)) = .instr (.readGate data) [] ∧
    decode (.host (0x14000000000 + data.toNat)) = .instr (.writeGate data) [] ∧
    decode (.host (0x06000000000 + data.toNat)) = .instr (.readPubWaveform data) [] ∧
    decode (.host (0x06400000000 + data.toNat)) = .instr (.readPubCutoff data) [] ∧
    decode (.host (0x06800000000 + data.toNat)) = .instr (.readPubResonance data) [] ∧
    decode (.host (0x06C00000000 + data.toNat)) = .instr (.readPubAttackMs data) [] ∧
    decode (.host (0x07000000000 + data.toNat)) = .instr (.readPubDecayMs data) [] ∧
    decode (.host (0x07400000000 + data.toNat)) = .instr (.readPubSustain data) [] ∧
    decode (.host (0x07800000000 + data.toNat)) = .instr (.readPubReleaseMs data) [] ∧
    decode (.host (0x07C00000000 + data.toNat)) = .instr (.readPubNoteFreq data) [] ∧
    decode (.host (0x08000000000 + data.toNat)) = .instr (.readPubGate data) []) ∧
  decode (.host 0x13C01B80000) = .instr (.writeNoteFreq 0x01B80000#32) [] ∧
  decode (.host 0x00000000000) = .instr (.readStatus 0#32) [] ∧
  decode (.host 0x00400000000) = .instr (.readUnderrunCount 0#32) [] ∧
  decode (.host 0x11400000000) = .instr (.writePublish 0#32) [] ∧
  decode (.host 0x1140000ABCD) = .instr (.writePublish 0xABCD#32) [] ∧
  decode (.host 0x10C0BB80000) = .instr (.writeNoteOn 0x0BB80000#32) [] ∧
  decode (.host 0x08000000000) = .instr (.readPubGate 0#32) [] ∧
  decode (.host 0x01800000000) = .instr (.reservedAccess false 0x18#8 0#32) [] ∧
  decode (.host 0x12100000005) = .instr (.reservedAccess true 0x21#8 5#32) [] ∧
  decode (.host 0x10000000001) = .instr (.reservedAccess true 0x00#8 1#32) []

/-- O5. The four event words, and no wider one (30_encoding.md R113, 60_exceptions.md R331). EVT = 1 is
SCHED.HT, EVT = 2 is SCHED.TC, EVT = 3 is SCHED.HT followed at once by the word of SCHED.TC, EVT = 0
is no event; a wider word is rejected (entry 7). -/
def Obligations.EventWordsDecode : Prop :=
  decode (.event 0) = .noStep ∧
  decode (.event 1) = .instr .schedHt [] ∧
  decode (.event 2) = .instr .schedTc [] ∧
  decode (.event 3) = .instr .schedHt [.event 2] ∧
  ∀ e, 4 ≤ e → decode (.event e) = .rejected .wideEvent

/-- O6. Decoding the encoding of a well-formed operation gives it back (30_encoding.md R111,
30_encoding.md R112, 30_encoding.md R113, 30_encoding.md R118). For every well-formed operation that
has an encoding, with every operand value, decode of encode is the operation itself with nothing to
follow. -/
def Obligations.DecodeOfEncodeIsTheInstruction : Prop :=
  ∀ (i : Instr) (sig : Signal), i.wf = true → encode i = some sig → decode sig = .instr i []

/-- O7. Every transaction word and every event word has a defined effect (30_encoding.md R138,
30_encoding.md R111, 30_encoding.md R113). Each 41-bit word decodes to a well-formed operation whose
encoding is that very word (no bit dropped), and running it answers a next state; each 2-bit event
word decodes to its events or to none, and is never rejected. Out-of-range operands are accepted:
the operations run for every data. That no bit is dropped is the choice of the model (entry 17): its
operations carry also the data bits that R111 lets the block ignore. -/
def Obligations.EveryHostWordIsAnInstruction : Prop :=
  (∀ x, x < 2 ^ 41 → ∃ i, i.wf = true ∧ decode (.host x) = .instr i [] ∧ encode i = some (.host x) ∧
    ∀ s : State, ∃ t, exec i s = .next t) ∧
  (∀ e, e < 4 → (decode (.event e) = .noStep ∧ e = 0) ∨ ∃ i after, decode (.event e) = .instr i after ∧
    ∀ s : State, ∃ t, exec i s = .next t)

/-- O8. Which accesses are reserved, and that they do nothing and read 0 (R137). A (we, addr) pair
decodes to a reserved access exactly for the offsets R137 lists; such an access is carried out,
changes no state, and a read returns 0. -/
def Obligations.ReservedAccessesHaveNoEffect : Prop :=
  (∀ (we : Bool) (addr : Offset) (data : Word),
    (decode (.host (we.toNat * 2 ^ 40 + addr.toNat * 2 ^ 32 + data.toNat))
        = .instr (.reservedAccess we addr data) [] ↔
      (addr = 0x18#8 ∨ addr = 0x1C#8 ∨ (0x44 ≤ addr.toNat ∧ addr.toNat ≤ 0x5C) ∨ 0x84 ≤ addr.toNat
        ∨ addr.toNat % 4 ≠ 0
        ∨ (we = true ∧ (addr = 0x00#8 ∨ addr = 0x04#8 ∨ (0x60 ≤ addr.toNat ∧ addr.toNat ≤ 0x80)))
        ∨ (we = false ∧ (addr = 0x0C#8 ∨ addr = 0x10#8 ∨ addr = 0x14#8))))) ∧
  (∀ (addr : Offset) (data : Word) (s : State),
    exec (.reservedAccess true addr data) s = .next s ∧
    exec (.reservedAccess false addr data) s = .next (hostRead 0#32 s))

/-- O9. A read of STATUS returns the sum of the eight fields; a write does nothing (R295). R.STATUS
answers a next state that differs only in the value returned: the sum of R295 over the fields of
that one state. A write to the offset changes nothing. -/
def Obligations.StatusReadAssemblesTheFlags : Prop :=
  ∀ (data : Word) (s : State),
    exec (.readStatus data) s = .next (hostRead (BitVec.ofNat 32
      ((if s.sched.busy then 1 else 0) + 2 * (if s.sched.own = .B then 1 else 0)
        + 4 * (if s.sched.underrunFlag then 1 else 0) + 8 * (if s.voice.active then 1 else 0)
        + 16 * (match s.voice.env.stage with
            | .idle => 0 | .attack => 1 | .decay => 2 | .sustain => 3 | .release => 4)
        + 128 * (if s.snap.pubIdx then 1 else 0) + 256 * (if s.sched.fillTarget = .B then 1 else 0)
        + 512 * (if s.rend.prevGate then 1 else 0))) s) ∧
    exec (.reservedAccess true 0x00#8 data) s = .next s ∧
    decode (.host (2 ^ 40 + data.toNat)) = .instr (.reservedAccess true 0x00#8 data) []

/-- O10. A read of UNDERRUN_COUNT returns the count and clears nothing (R296). R.UNDERRUN_COUNT returns
sched.underrunCount and changes nothing else; a write to the offset changes nothing. -/
def Obligations.UnderrunCountReadsAndStays : Prop :=
  ∀ (data : Word) (s : State),
    exec (.readUnderrunCount data) s = .next (hostRead s.sched.underrunCount s) ∧
    exec (.reservedAccess true 0x04#8 data) s = .next s ∧
    decode (.host (2 ^ 40 + 4 * 2 ^ 32 + data.toNat)) = .instr (.reservedAccess true 0x04#8 data) []

/-- O11. AMPLITUDE stores the smaller of the data and ONE, and reads back with bit 31 zero (R121).
W.AMPLITUDE writes voice.amplitude and nothing else: the data up to ONE, else ONE. R.AMPLITUDE
returns it in bits 30:0 with bit 31 zero. It is ONE after reset. -/
def Obligations.AmplitudeWritesAndReads : Prop :=
  (∀ (data : Word) (s : State),
    exec (.writeAmplitude data) s = .next { s with voice := { s.voice with
      amplitude := if data.toNat ≤ 0x40000000 then BitVec.ofNat 31 data.toNat else 0x40000000#31 } } ∧
    exec (.readAmplitude data) s = .next (hostRead (0#1 ++ s.voice.amplitude) s)) ∧
  State.reset.voice.amplitude = 0x40000000#31

/-- O12. The nine staging writes store the pattern unchanged in the staging bank (46_host_interface.md
R293, 10_state.md R57). Each of the nine staging writes answers a next state in which its field of
bank[1 - snap.pubIdx] is the data and nothing else has changed. -/
def Obligations.StagingWritesStoreThePattern : Prop :=
  ∀ (data : Word) (s : State),
    exec (.writeWaveform data) s = .next (stagingChanged (fun b => { b with waveform := data }) s) ∧
    exec (.writeCutoff data) s = .next (stagingChanged (fun b => { b with cutoff := data }) s) ∧
    exec (.writeResonance data) s = .next (stagingChanged (fun b => { b with resonance := data }) s) ∧
    exec (.writeAttackMs data) s = .next (stagingChanged (fun b => { b with attackMs := data }) s) ∧
    exec (.writeDecayMs data) s = .next (stagingChanged (fun b => { b with decayMs := data }) s) ∧
    exec (.writeSustain data) s = .next (stagingChanged (fun b => { b with sustain := data }) s) ∧
    exec (.writeReleaseMs data) s = .next (stagingChanged (fun b => { b with releaseMs := data }) s) ∧
    exec (.writeNoteFreq data) s = .next (stagingChanged (fun b => { b with noteFreq := data }) s) ∧
    exec (.writeGate data) s = .next (stagingChanged (fun b => { b with gate := data }) s)

/-- O13. The nine staging reads return the fields of the staging bank (46_host_interface.md R301). Each
of the nine staging reads returns its field of bank[1 - snap.pubIdx] and changes nothing else. -/
def Obligations.StagingReadsReturnTheStagingBank : Prop :=
  ∀ (data : Word) (s : State),
    exec (.readWaveform data) s = .next (hostRead (stagingBank s).waveform s) ∧
    exec (.readCutoff data) s = .next (hostRead (stagingBank s).cutoff s) ∧
    exec (.readResonance data) s = .next (hostRead (stagingBank s).resonance s) ∧
    exec (.readAttackMs data) s = .next (hostRead (stagingBank s).attackMs s) ∧
    exec (.readDecayMs data) s = .next (hostRead (stagingBank s).decayMs s) ∧
    exec (.readSustain data) s = .next (hostRead (stagingBank s).sustain s) ∧
    exec (.readReleaseMs data) s = .next (hostRead (stagingBank s).releaseMs s) ∧
    exec (.readNoteFreq data) s = .next (hostRead (stagingBank s).noteFreq s) ∧
    exec (.readGate data) s = .next (hostRead (stagingBank s).gate s)

/-- O14. The nine published reads return the fields of the published bank, unchanged
(46_host_interface.md R300). Each of the nine published reads returns its field of bank[snap.pubIdx]
and changes nothing else. -/
def Obligations.PublishedReadsReturnThePublishedBank : Prop :=
  ∀ (data : Word) (s : State),
    exec (.readPubWaveform data) s = .next (hostRead (publishedBank s).waveform s) ∧
    exec (.readPubCutoff data) s = .next (hostRead (publishedBank s).cutoff s) ∧
    exec (.readPubResonance data) s = .next (hostRead (publishedBank s).resonance s) ∧
    exec (.readPubAttackMs data) s = .next (hostRead (publishedBank s).attackMs s) ∧
    exec (.readPubDecayMs data) s = .next (hostRead (publishedBank s).decayMs s) ∧
    exec (.readPubSustain data) s = .next (hostRead (publishedBank s).sustain s) ∧
    exec (.readPubReleaseMs data) s = .next (hostRead (publishedBank s).releaseMs s) ∧
    exec (.readPubNoteFreq data) s = .next (hostRead (publishedBank s).noteFreq s) ∧
    exec (.readPubGate data) s = .next (hostRead (publishedBank s).gate s)

/-- O15. PUBLISH inverts the index and nothing else; two cancel (46_host_interface.md R294, 20_memory.md
R97). W.PUBLISH, whatever its data, inverts snap.pubIdx and changes nothing else, so the staging
bank becomes the published one and the other way round; two publishes in a row give back the state. -/
def Obligations.PublishSwapsTheBanks : Prop :=
  ∀ (data data' : Word) (s : State),
    exec (.writePublish data) s = .next { s with snap := { s.snap with pubIdx := !s.snap.pubIdx } } ∧
    (∀ t, exec (.writePublish data) s = .next t →
      publishedBank t = stagingBank s ∧ stagingBank t = publishedBank s) ∧
    execAll [.writePublish data, .writePublish data'] s = .next s

/-- O16. VOICE.TRIGGER and NOTE_ON set frequency, increment and active, and gate the envelope on
(43_voice.md R221, 46_host_interface.md R298, 40_oscillator.md R163). Both answer the same next
state: the frequency pattern stored, the phase increment recomputed from it, active set, the
envelope as ENV.GATEON leaves it; the phase, the filter history and everything else unchanged. -/
def Obligations.NoteOnTriggersTheVoice : Prop :=
  ∀ (f : Word) (s : State), ∃ e,
    exec .envGateon s = .next { s with voice := { s.voice with env := e } } ∧
    exec (.voiceTrigger f) s = .next { s with voice := { s.voice with
      frequency := f, active := true, env := e
      osc := { s.voice.osc with phaseIncrement := specIncrement s.cfg f } } } ∧
    exec (.writeNoteOn f) s = .next { s with voice := { s.voice with
      frequency := f, active := true, env := e
      osc := { s.voice.osc with phaseIncrement := specIncrement s.cfg f } } }

/-- O17. VOICE.RELEASE and NOTE_OFF gate the envelope off and change nothing else (43_voice.md R222,
46_host_interface.md R299). Both answer the same next state whatever the data: the envelope as
ENV.GATEOFF leaves it, active and everything else unchanged. -/
def Obligations.NoteOffReleasesTheVoice : Prop :=
  ∀ (data : Word) (s : State), ∃ e,
    exec .envGateoff s = .next { s with voice := { s.voice with env := e } } ∧
    exec .voiceRelease s = .next { s with voice := { s.voice with env := e } } ∧
    exec (.writeNoteOff data) s = .next { s with voice := { s.voice with env := e } }

/-- O18. A second release in a row changes nothing (42_envelope.md R198, 20_memory.md R90). From every
state, VOICE.RELEASE twice, NOTE_OFF twice and ENV.GATEOFF twice each answer the same next state as
once. -/
def Obligations.ReleasingTwiceIsReleasingOnce : Prop :=
  ∀ (data data' : Word) (s t : State),
    (exec .voiceRelease s = .next t → exec .voiceRelease t = .next t) ∧
    (exec (.writeNoteOff data) s = .next t → exec (.writeNoteOff data') t = .next t) ∧
    (exec .envGateoff s = .next t → exec .envGateoff t = .next t)

/-- O19. The scheduler's transition table, both events in both cases (R266). With no fill running an
event sets the ownership, starts a fill of its buffer and performs the block start; with a fill
running it sets the ownership, records an underrun (flag and saturating count), starts nothing and
lets the fill go on. Everything else is unchanged. -/
def Obligations.EventsFollowTheTransitionTable : Prop :=
  ∀ s : State,
    (s.sched.busy = false →
      (∃ t, exec .renderBlockstart { s with
          sched := { s.sched with own := .B, busy := true, fillTarget := .B }
          rend := { s.rend with frameIdx := 0#15 } } = .next t ∧ exec .schedHt s = .next t) ∧
      (∃ t, exec .renderBlockstart { s with
          sched := { s.sched with own := .A, busy := true, fillTarget := .A }
          rend := { s.rend with frameIdx := 0#15 } } = .next t ∧ exec .schedTc s = .next t)) ∧
    (s.sched.busy = true →
      exec .schedHt s = .next { s with sched := { s.sched with
        own := .B, underrunFlag := true
        underrunCount := BitVec.ofNat 32 (min (s.sched.underrunCount.toNat + 1) (2 ^ 32 - 1)) } } ∧
      exec .schedTc s = .next { s with sched := { s.sched with
        own := .A, underrunFlag := true
        underrunCount := BitVec.ofNat 32 (min (s.sched.underrunCount.toNat + 1) (2 ^ 32 - 1)) } })

/-- O20. Only reset clears the underrun flag or count, and the count saturates (R268). No operation but
RESET clears sched.underrunFlag or lowers sched.underrunCount; a count of 2^32 - 1 stays; an event
during a fill at that count leaves it; RESET clears both. -/
def Obligations.UnderrunRecordIsStickyAndSaturates : Prop :=
  (∀ (i : Instr) (s t : State), i ≠ .reset → exec i s = .next t →
    (s.sched.underrunFlag = true → t.sched.underrunFlag = true) ∧
    s.sched.underrunCount.toNat ≤ t.sched.underrunCount.toNat ∧
    (s.sched.underrunCount = 0xFFFFFFFF#32 → t.sched.underrunCount = 0xFFFFFFFF#32)) ∧
  (∀ s t : State, exec .reset s = .next t →
    t.sched.underrunFlag = false ∧ t.sched.underrunCount = 0#32)

/-- O21. The block start: four derivations, the gate edge, the gate remembered (44_render_engine.md
R241, 44_render_engine.md R243). RENDER.BLOCKSTART answers what OSC.SETWAVE, FLT.SETCUTOFF,
FLT.SETRES and ENV.SETPARAMS of the published fields leave, then VOICE.TRIGGER on a rising gate bit
or VOICE.RELEASE on a falling one or neither, then the gate bit in rend.prevGate; nothing else
changes. -/
def Obligations.BlockStartDerivesThePublishedBank : Prop :=
  ∀ s : State, ∃ t,
    execAll ([.oscSetwave (publishedBank s).waveform, .fltSetcutoff (publishedBank s).cutoff,
        .fltSetres (publishedBank s).resonance,
        .envSetparams (publishedBank s).attackMs (publishedBank s).decayMs (publishedBank s).sustain
          (publishedBank s).releaseMs] ++
      (if (publishedBank s).gate.getLsbD 0 = true ∧ s.rend.prevGate = false then
        [Instr.voiceTrigger (publishedBank s).noteFreq]
      else if (publishedBank s).gate.getLsbD 0 = false ∧ s.rend.prevGate = true then [Instr.voiceRelease]
      else [])) s = .next t ∧
    exec .renderBlockstart s
      = .next { t with rend := { t.rend with prevGate := (publishedBank s).gate.getLsbD 0 } }

/-- O22. RENDER.FRAME renders one sample into both words of its frame and advances the index
(44_render_engine.md R244, 44_render_engine.md R245, 44_render_engine.md R246, 20_memory.md R84,
20_memory.md R85). While a fill runs with its index in the block: the Voice is as VOICE.RENDERSAMPLE
leaves it; both words of frame k of the latched buffer hold the PCM value, every other byte of the
loop is unchanged; the index advances, or on the last frame returns to 0 and the fill ends; nothing
else changes. -/
def Obligations.RenderFrameWritesOneFrame : Prop :=
  ∀ s : State, s.sched.busy = true → s.rend.frameIdx.toNat < s.cfg.bufFrames → s.out.wf = true →
    ∃ (v : Int) (voice : Voice) (m : Memory),
      exec .voiceRendersample s = .next { s with voice := voice, obs := { s.obs with value := v } } ∧
      exec .renderFrame s = .next { s with
        voice := voice
        out := m
        sched := if s.rend.frameIdx.toNat = s.cfg.bufFrames - 1 then { s.sched with busy := false }
          else s.sched
        rend := if s.rend.frameIdx.toNat = s.cfg.bufFrames - 1 then { s.rend with frameIdx := 0#15 }
          else { s.rend with frameIdx := BitVec.ofNat 15 (s.rend.frameIdx.toNat + 1) } } ∧
      m.wf = true ∧
      (∀ w, w = bufBase s.cfg s.sched.fillTarget + 2 * s.rend.frameIdx.toNat ∨
          w = bufBase s.cfg s.sched.fillTarget + 2 * s.rend.frameIdx.toNat + 1 →
        m.readHalf w = BitVec.ofInt 16 (max (-32768) (min 32767 ((v + 16384) / 32768)))) ∧
      (∀ a, a < 2 * (bufBase s.cfg s.sched.fillTarget + 2 * s.rend.frameIdx.toNat) ∨
          2 * (bufBase s.cfg s.sched.fillTarget + 2 * s.rend.frameIdx.toNat) + 4 ≤ a →
        m.read a = s.out.read a)

/-- O23. RENDER.FRAME does not exist while no fill runs (70_reset_and_hazards.md R382,
44_render_engine.md R245). While sched.busy = 0 the operation is refused by name; with an index
outside the block, which no run reaches, the model's own fault stops it (entry 11). -/
def Obligations.FrameWithoutAFillIsRefused : Prop :=
  ∀ s : State,
    (s.sched.busy = false → exec .renderFrame s = .refused .noFillRunning) ∧
    (s.sched.busy = true → s.cfg.bufFrames ≤ s.rend.frameIdx.toNat →
      exec .renderFrame s = .fault .bufferWordOutOfRange)

/-- O24. The PCM conversion rounds to nearest with ties up and clamps only at the top
(44_render_engine.md R244, 00_scope.md R13). For a sample v in -ONE .. ONE the PCM value lies in the
16-bit range; from 1073725440 on it is 32767; below that it is the integer nearest to v / 32768, a
tie going up. -/
def Obligations.PcmIsTheNearestRepresentableValue : Prop :=
  ∀ v : Int, -Config.one ≤ v → v ≤ Config.one →
    -32768 ≤ pcm v ∧ pcm v ≤ 32767 ∧ (pcmWord (pcm v)).toInt = pcm v ∧
    (1073725440 ≤ v → pcm v = 32767) ∧
    (v < 1073725440 → -16384 < 32768 * pcm v - v ∧ 32768 * pcm v - v ≤ 16384)

/-- O25. A fill left alone renders its whole block, frame after frame, and ends (44_render_engine.md
R246, 44_render_engine.md R249, 10_state.md R62). From every legal state at the start of a fill with
nothing else presented, BUF_FRAMES steps end the fill: frame k of its buffer holds, left and right,
the PCM value of the Voice's k-th sample, the Voice has advanced BUF_FRAMES samples, and every other
byte and register is unchanged. That a step with nothing presented is the next frame of the running
fill is the model's choice (entry 2). -/
def Obligations.FillRendersTheWholeBlock : Prop :=
  ∀ s : State, s.Ok → s.sched.busy = true → s.rend.frameIdx = 0#15 → s.trace = [] →
    ∃ m, runSteps s.cfg.bufFrames s = .next { s with
        voice := Voice.frames s.cfg.bufFrames s.voice
        sched := { s.sched with busy := false }
        out := m } ∧
      (∀ k, k < s.cfg.bufFrames →
        m.readHalf (bufBase s.cfg s.sched.fillTarget + 2 * k)
            = pcmWord (pcm (Voice.frames k s.voice).renderSample.1) ∧
        m.readHalf (bufBase s.cfg s.sched.fillTarget + 2 * k + 1)
            = pcmWord (pcm (Voice.frames k s.voice).renderSample.1)) ∧
      (∀ a, a < 2 * bufBase s.cfg s.sched.fillTarget ∨
          2 * bufBase s.cfg s.sched.fillTarget + 4 * s.cfg.bufFrames ≤ a →
        m.read a = s.out.read a)

/-- O26. Without an underrun no frame touches the buffer the hardware owns (45_output_scheduler.md R270,
20_memory.md R92). In every legal state in which no underrun is recorded, a RENDER.FRAME leaves
every byte of the buffer other than the software-owned one as it was. -/
def Obligations.FramesWriteOnlyTheSoftwareOwnedBuffer : Prop :=
  ∀ s t : State, s.Ok → s.sched.underrunFlag = false → exec .renderFrame s = .next t →
    s.sched.fillTarget = s.sched.own ∧
    ∀ (b : Buffer) (a : Nat), b ≠ s.sched.own → 2 * bufBase s.cfg b ≤ a →
      a < 2 * bufBase s.cfg b + 4 * s.cfg.bufFrames → t.out.read a = s.out.read a

/-- O27. The seven derived registers change only at a block start (44_render_engine.md R247,
44_render_engine.md R241, 10_state.md R60). No host access, no frame, no transmit step and no
operation but the setters, the block start, the events and reset changes the waveform, the
coefficient, the resonance, the three times, the sustain level or the remembered gate; an event
during a fill does not either. -/
def Obligations.ControlRegistersHoldWithinABlock : Prop :=
  ∀ (i : Instr) (s t : State), exec i s = .next t →
    (∀ w, i ≠ .oscSetwave w) → (∀ c, i ≠ .fltSetcutoff c) → (∀ r, i ≠ .fltSetres r) →
    (∀ a d sl rl, i ≠ .envSetparams a d sl rl) → i ≠ .renderBlockstart → i ≠ .reset →
    (i = .schedHt ∨ i = .schedTc → s.sched.busy = true) →
    t.voice.osc.waveform = s.voice.osc.waveform ∧
    t.voice.flt.cutoffCoefficient = s.voice.flt.cutoffCoefficient ∧
    t.voice.flt.resonance = s.voice.flt.resonance ∧
    t.voice.env.attackTime = s.voice.env.attackTime ∧
    t.voice.env.decayTime = s.voice.env.decayTime ∧
    t.voice.env.releaseTime = s.voice.env.releaseTime ∧
    t.voice.env.sustainLevel = s.voice.env.sustainLevel ∧
    t.rend.prevGate = s.rend.prevGate

/-- O28. Only a rendered sample moves the phase and the filter history (10_state.md R30, 10_state.md
R35, 40_oscillator.md R163, 41_filter.md R177). No operation but OSC.ADVANCE, VOICE.RENDERSAMPLE,
RENDER.FRAME and RESET changes osc.phase, and none but FLT.PROCESS, VOICE.RENDERSAMPLE, RENDER.FRAME
and RESET changes flt.previousOutput: no trigger, release, block start, event or host access does. -/
def Obligations.PhaseAndHistoryRunFree : Prop :=
  ∀ (i : Instr) (s t : State), exec i s = .next t →
    i ≠ .voiceRendersample → i ≠ .renderFrame → i ≠ .reset →
    (i ≠ .oscAdvance → t.voice.osc.phase = s.voice.osc.phase) ∧
    ((∀ x, i ≠ .fltProcess x) → t.voice.flt.previousOutput = s.voice.flt.previousOutput)

/-- O29. The published bank never changes under the render agent; only PUBLISH switches banks
(10_state.md R57, 20_memory.md R89, 44_render_engine.md R248). No operation but PUBLISH and RESET
changes what the published bank holds or the index, whatever the host writes to staging; and no
operation other than a host write or RESET changes either bank. -/
def Obligations.BanksBelongToTheHost : Prop :=
  ∀ (i : Instr) (s t : State), exec i s = .next t → i ≠ .reset →
    ((∀ d, i ≠ .writePublish d) →
      publishedBank t = publishedBank s ∧ t.snap.pubIdx = s.snap.pubIdx) ∧
    (t.snap ≠ s.snap → ∃ addr data, encode i = some (.host (2 ^ 40 + addr * 2 ^ 32 + data)) ∧
      addr < 256 ∧ data < 2 ^ 32)

/-- O30. Only RENDER.FRAME and RESET write the output loop; nothing changes the parameters (10_state.md
R62, 20_memory.md R80, 00_scope.md R7). Every operation but RENDER.FRAME and RESET leaves the output
loop as it was, and every operation leaves SAMPLE_RATE and BUF_FRAMES as they were (that the
parameters stand in State is entry 4). -/
def Obligations.LoopIsWrittenByFramesOnly : Prop :=
  ∀ (i : Instr) (s t : State), exec i s = .next t →
    t.cfg = s.cfg ∧ (i ≠ .renderFrame → i ≠ .reset → t.out = s.out)

/-- O31. OSC.SETFREQ computes the phase increment and writes nothing else (40_oscillator.md R152). For
every pattern: 0 when it is not positive as a signed number, else floor(F * 65536 / SAMPLE_RATE)
reduced modulo 2^32; the phase and everything else unchanged. -/
def Obligations.OscSetfreqSetsTheIncrement : Prop :=
  ∀ (f : Word) (s : State),
    exec (.oscSetfreq f) s = .next { s with voice := { s.voice with osc := { s.voice.osc with
      phaseIncrement := if f.toInt ≤ 0 then 0#32
        else BitVec.ofNat 32 (f.toNat * 65536 / s.cfg.sampleRate) } } }

/-- O32. OSC.SETWAVE takes 0 to 3 and makes everything else Sine (R153). For every pattern, compared on
all 32 bits: 1 Saw, 2 Square, 3 Triangle, 0 and everything above 3 Sine; the phase and everything
else unchanged. -/
def Obligations.OscSetwaveSelectsOrFallsBackToSine : Prop :=
  ∀ (w : Word) (s : State),
    exec (.oscSetwave w) s = .next { s with voice := { s.voice with osc := { s.voice.osc with
      waveform := match w.toNat with
        | 0 => .sine | 1 => .saw | 2 => .square | 3 => .triangle | _ => .sine } } }

/-- O33. OSC.ADVANCE adds the increment and returns the wave value at the new phase (40_oscillator.md
R154, 40_oscillator.md R156, 40_oscillator.md R157, 40_oscillator.md R158, 40_oscillator.md R159,
40_oscillator.md R160, 40_oscillator.md R161). The phase becomes the 32-bit sum; the value returned
is the interpolated sine, saw, square or triangle formula at the new phase; nothing else changes.
That the value is kept in obs.value is entry 10. -/
def Obligations.OscAdvanceReturnsTheWaveAtTheNewPhase : Prop :=
  ∀ s : State, ∀ p : BitVec 32, p = s.voice.osc.phase + s.voice.osc.phaseIncrement →
    exec .oscAdvance s = .next { s with
      voice := { s.voice with osc := { s.voice.osc with phase := p } }
      obs := { s.obs with value := match s.voice.osc.waveform with
        | .sine => rom (p.toNat / 4194304) * 32768
            + ((rom ((p.toNat / 4194304 + 1) % 1024) - rom (p.toNat / 4194304))
                * ((p.toNat % 4194304 : Nat) : Int) + 64) / 128
        | .saw => (p.toNat : Int) / 2 - 1073741824
        | .square => if p.toNat < 2147483648 then 1073741824 else -1073741824
        | .triangle => if p.toNat < 2147483648 then (p.toNat : Int) - 1073741824
            else 3221225472 - (p.toNat : Int) } }

/-- O34. The sine ROM has the properties the spec lists (R74). The four quarter entries, the two
symmetries, the sum, the sum of magnitudes, the sum of squares, and the bound on the difference of
neighbours, wrapping from the last entry to the first. -/
def Obligations.RomHasTheDocumentedProperties : Prop :=
  rom 0 = 0 ∧ rom 256 = 32767 ∧ rom 512 = 0 ∧ rom 768 = -32767 ∧
  (∀ i, i ≤ 256 → rom (512 - i) = rom i) ∧
  (∀ i, i < 512 → rom ((512 + i) % 1024) = -rom i) ∧
  ((List.range 1024).map rom).sum = 0 ∧
  ((List.range 1024).map fun i => |rom i|).sum = 21360666 ∧
  ((List.range 1024).map fun i => rom i * rom i).sum = 549720852006 ∧
  (∀ i, i < 1024 → |rom ((i + 1) % 1024) - rom i| ≤ 201)

/-- O35. Every waveform stays within full scale at every phase (R155). For all waveforms and all 2^32
phases the value lies in -ONE .. ONE; the sine within plus or minus 1073709056, the saw below ONE,
the square takes exactly ONE and -ONE, the triangle takes every value of -ONE .. ONE. -/
def Obligations.WaveformsStayInFullScale : Prop :=
  (∀ (w : Waveform) (p : BitVec 32), -Config.one ≤ wave w p ∧ wave w p ≤ Config.one) ∧
  (∀ p : BitVec 32, -1073709056 ≤ wave .sine p ∧ wave .sine p ≤ 1073709056) ∧
  (∀ p : BitVec 32, wave .saw p ≤ Config.one - 1) ∧
  (∀ v : Int, (∃ p : BitVec 32, wave .square p = v) ↔ v = Config.one ∨ v = -Config.one) ∧
  (∀ v : Int, (∃ p : BitVec 32, wave .triangle p = v) ↔ -Config.one ≤ v ∧ v ≤ Config.one)

/-- O36. Saw and Square are discontinuous exactly where documented; Triangle and Sine nowhere
(40_oscillator.md R164, 40_oscillator.md R157, 95_test_vectors.md V-OSC-3). One phase unit moves the
Saw by at most 1 except at the cycle boundary, where it falls by 2147483647, the Square by 0 except
at the half cycle and the boundary, where it moves by 2147483648, the Triangle by at most 1. For the
Sine the bound here is 2, and it is reached: R164's bound of 1 contradicts R157 and the spec's own
vector sine(1) - sine(0) = 2 (entry 19). -/
def Obligations.WaveformsJumpOnlyAtTheDocumentedPhases : Prop :=
  ∀ p : BitVec 32,
    (p ≠ 0xFFFFFFFF#32 → 0 ≤ wave .saw (p + 1#32) - wave .saw p ∧ wave .saw (p + 1#32) - wave .saw p ≤ 1) ∧
    (p ≠ 0xFFFFFFFF#32 → p ≠ 0x7FFFFFFF#32 → wave .square (p + 1#32) = wave .square p) ∧
    (wave .triangle (p + 1#32) - wave .triangle p = 1 ∨ wave .triangle (p + 1#32) - wave .triangle p = -1) ∧
    (-2 ≤ wave .sine (p + 1#32) - wave .sine p ∧ wave .sine (p + 1#32) - wave .sine p ≤ 2) ∧
    (wave .saw 0#32 - wave .saw 0xFFFFFFFF#32 = -2147483647 ∧
      wave .square 0x80000000#32 - wave .square 0x7FFFFFFF#32 = -2147483648 ∧
      wave .square 0#32 - wave .square 0xFFFFFFFF#32 = 2147483648 ∧ wave .sine 1#32 - wave .sine 0#32 = 2)

/-- O37. FLT.SETCUTOFF clamps the cutoff and derives the coefficient (41_filter.md R171). For every
pattern: the cutoff clamped to 20 .. 20000 Hz, times 2 pi, divided by the sample rate with floor,
clamped to 1 .. ONE; nothing else changes. -/
def Obligations.FltSetcutoffDerivesTheCoefficient : Prop :=
  ∀ (c : Word) (s : State),
    exec (.fltSetcutoff c) s = .next { s with voice := { s.voice with flt := { s.voice.flt with
      cutoffCoefficient := BitVec.ofNat 31 (max 1 (min 1073741824
        (1686629713 * max 1310720 (min c.toNat 1310720000) / (s.cfg.sampleRate * 16384)))) } } }

/-- O38. 20000 Hz is a pass-through at every legal sample rate (41_filter.md R172, 41_filter.md R175,
00_scope.md R8). At every legal SAMPLE_RATE the coefficient of 20000 Hz, and of every larger
pattern, is ONE; with the coefficient ONE the filter returns its input unchanged, whatever the
resonance and the history. -/
def Obligations.HighestCutoffIsAPassThrough : Prop :=
  (∀ (c : Word) (s t : State), s.cfg.Legal → 0x4E200000 ≤ c.toNat → exec (.fltSetcutoff c) s = .next t →
    t.voice.flt.cutoffCoefficient = 0x40000000#31) ∧
  (∀ (x : Int) (s t : State), -Config.one ≤ x → x ≤ Config.one →
    s.voice.flt.cutoffCoefficient = 0x40000000#31 → exec (.fltProcess x) s = .next t →
    t.obs.value = x ∧ t.voice.flt.previousOutput = BitVec.ofInt 32 x)

/-- O39. FLT.SETRES stores the smaller of the pattern and RES_MAX (R173). For every pattern, unsigned;
nothing else changes. -/
def Obligations.FltSetresClampsTheResonance : Prop :=
  ∀ (r : Word) (s : State),
    exec (.fltSetres r) s = .next { s with voice := { s.voice with flt := { s.voice.flt with
      resonance := if r.toNat ≤ 1020054732 then BitVec.ofNat 30 r.toNat else 1020054732#30 } } }

/-- O40. The properties of the effective coefficient (41_filter.md R174). For every legal coefficient
and resonance: it lies in 1 .. a, equals a at resonance 0, equals ONE at a = ONE, and does not
increase when the resonance increases. -/
def Obligations.EffectiveCoefficientIsBoundedByTheCoefficient : Prop :=
  ∀ a r r' : Int, 1 ≤ a → a ≤ Config.one → 0 ≤ r → r ≤ r' → r' ≤ Config.resMax →
    1 ≤ effCoef a r ∧ effCoef a r ≤ a ∧ effCoef a 0 = a ∧ effCoef Config.one r = Config.one ∧
    effCoef a r' ≤ effCoef a r

/-- O41. FLT.PROCESS computes the rounded weighted mean, clamped, and keeps it as history (41_filter.md
R174, 41_filter.md R175). For every input: with the effective coefficient written out, the exact sum
of the two products rounded once and clamped to -ONE .. ONE is returned and stored in
flt.previousOutput; nothing else changes. -/
def Obligations.FltProcessIsTheDifferenceEquation : Prop :=
  ∀ (x a r h ae y : Int) (s : State),
    a = s.voice.flt.cutoffCoefficient.toNat → r = s.voice.flt.resonance.toNat →
    h = s.voice.flt.previousOutput.toInt →
    ae = max 1 (a - (r * ((a * (1073741824 - a) + 536870912) / 1073741824) + 536870912) / 1073741824) →
    y = max (-1073741824) (min 1073741824
      ((ae * x + (1073741824 - ae) * h + 536870912) / 1073741824)) →
    exec (.fltProcess x) s = .next { s with
      voice := { s.voice with flt := { s.voice.flt with previousOutput := BitVec.ofInt 32 y } }
      obs := { s.obs with value := y } }

/-- O42. The filter output never leaves full scale and never exceeds its inputs (R176). After every
FLT.PROCESS, for every input and every state, the history lies in -ONE .. ONE; with legal registers
and an input in -ONE .. ONE the output is no larger in magnitude than the larger of the input and
the previous output. -/
def Obligations.FilterIsStable : Prop :=
  (∀ (x : Int) (s t : State), exec (.fltProcess x) s = .next t →
    |t.voice.flt.previousOutput.toInt| ≤ Config.one) ∧
  (∀ (x : Int) (s t : State), s.voice.flt.Ok → -Config.one ≤ x → x ≤ Config.one →
    exec (.fltProcess x) s = .next t →
    |t.obs.value| ≤ max |x| |s.voice.flt.previousOutput.toInt| ∧
    t.voice.flt.previousOutput.toInt = t.obs.value)

/-- O43. ENV.SETPARAMS converts milliseconds to samples and clamps the sustain level (42_envelope.md
R191). For all four patterns: each time is floor(min(ms, 5000) * SAMPLE_RATE / 1000), the sustain
level min(S, ONE); the stage, level, increment, target and everything else unchanged. -/
def Obligations.EnvSetparamsDerivesTimesAndSustain : Prop :=
  ∀ (a d sl rl : Word) (s : State),
    exec (.envSetparams a d sl rl) s = .next { s with voice := { s.voice with env := { s.voice.env with
      attackTime := BitVec.ofNat 32 ((if a.toNat ≤ 5000 then a.toNat else 5000) * s.cfg.sampleRate / 1000)
      decayTime := BitVec.ofNat 32 ((if d.toNat ≤ 5000 then d.toNat else 5000) * s.cfg.sampleRate / 1000)
      releaseTime := BitVec.ofNat 32 ((if rl.toNat ≤ 5000 then rl.toNat else 5000) * s.cfg.sampleRate / 1000)
      sustainLevel := if sl.toNat ≤ 0x40000000 then BitVec.ofNat 31 sl.toNat else 0x40000000#31 } } }

/-- O44. ENV.GATEON ramps from the current level, or passes an empty attack through (42_envelope.md
R193, 42_envelope.md R195, 42_envelope.md R196, 42_envelope.md R197). In every stage, with a legal
level and sustain level: an attack of some samples below ONE ramps from the current level with its
increment rounded up; an attack of no samples, or at ONE already, completes at once into Decay or
Sustain. Only the envelope changes. -/
def Obligations.EnvGateonEntersAttack : Prop :=
  ∀ s : State, s.voice.env.level.toNat ≤ Config.oneNat → s.voice.env.sustainLevel.toNat ≤ Config.oneNat →
    ∃ e, exec .envGateon s = .next { s with voice := { s.voice with env := e } } ∧
      (s.voice.env.attackTime ≠ 0#32 → s.voice.env.level ≠ levelOne → e = { s.voice.env with
        stage := .attack
        target := levelOne
        increment := BitVec.ofInt 32
          ((Config.one - s.voice.env.level.toNat + s.voice.env.attackTime.toNat - 1)
            / s.voice.env.attackTime.toNat) }) ∧
      (s.voice.env.attackTime = 0#32 ∨ s.voice.env.level = levelOne →
        s.voice.env.AttackCompleted e)

/-- O45. ENV.GATEOFF ramps down from the current level, or goes to Idle at once (42_envelope.md R193,
42_envelope.md R195, 42_envelope.md R196, 42_envelope.md R198). In Idle and Release nothing changes;
elsewhere a release of some samples above level 0 ramps down with its increment rounded away from
zero and the level unchanged, and a release of no samples or at level 0 is Idle at level 0 at once.
Only the envelope changes. -/
def Obligations.EnvGateoffEntersRelease : Prop :=
  ∀ s : State, ∃ e, exec .envGateoff s = .next { s with voice := { s.voice with env := e } } ∧
    (s.voice.env.stage = .idle ∨ s.voice.env.stage = .release → e = s.voice.env) ∧
    (s.voice.env.stage ≠ .idle → s.voice.env.stage ≠ .release →
      (s.voice.env.releaseTime = 0#32 ∨ s.voice.env.level = 0#31 → e = { s.voice.env with
        stage := .idle, level := 0#31, increment := 0#32, target := 0#31 }) ∧
      (s.voice.env.releaseTime ≠ 0#32 → s.voice.env.level ≠ 0#31 → e = { s.voice.env with
        stage := .release
        target := 0#31
        increment := BitVec.ofInt 32
          (-((s.voice.env.level.toNat + s.voice.env.releaseTime.toNat - 1 : Int)
            / s.voice.env.releaseTime.toNat)) }))

/-- O46. ENV.TICK: the ramp value, the shortened last step, the completion (42_envelope.md R199,
42_envelope.md R193, 42_envelope.md R196). For legal envelope registers (a Decay ramping down): a
resting stage returns its level and changes nothing; Attack returns the smaller of level plus
increment and ONE, Decay and Release the larger of level plus increment and the target; short of the
target only the level changes, at the target the stage completes. Only the envelope and the returned
value change. -/
def Obligations.EnvTickRampsByTheIncrement : Prop :=
  ∀ s : State, s.voice.env.Ok s.cfg → ∃ (g : Int) (e : Envelope),
    exec .envTick s = .next { s with
      voice := { s.voice with env := e }, obs := { s.obs with value := g } } ∧
    (s.voice.env.stage = .idle ∨ s.voice.env.stage = .sustain →
      g = s.voice.env.level.toNat ∧ e = s.voice.env) ∧
    (s.voice.env.stage = .attack →
      g = min (s.voice.env.level.toNat + s.voice.env.increment.toInt) Config.one ∧
      (g = Config.one → s.voice.env.AttackCompleted e)) ∧
    (s.voice.env.stage = .decay →
      g = max (s.voice.env.level.toNat + s.voice.env.increment.toInt) s.voice.env.target.toNat ∧
      (g = s.voice.env.target.toNat → e = { s.voice.env with
        stage := .sustain, level := s.voice.env.target, increment := 0#32 })) ∧
    (s.voice.env.stage = .release →
      g = max (s.voice.env.level.toNat + s.voice.env.increment.toInt) 0 ∧
      (g = 0 → e = { s.voice.env with stage := .idle, level := 0#31, increment := 0#32 })) ∧
    (s.voice.env.stage ≠ .idle → s.voice.env.stage ≠ .sustain → g ≠ s.voice.env.target.toNat →
      e = { s.voice.env with level := BitVec.ofInt 31 g })

/-- O47. A ramp moves by exactly its increment and ends on its computed tick (42_envelope.md R200,
42_envelope.md R201). For every legal envelope in a ramping stage, with n the distance divided by
the increment rounded up: before tick n the stage, the increment and the target stay and the level
is the start plus k increments; on tick n the stage is left and the value returned is the target. -/
def Obligations.RampTakesItsNumberOfTicks : Prop :=
  ∀ (c : Config) (e : Envelope) (n : Nat), e.Ok c →
    e.stage = .attack ∨ e.stage = .decay ∨ e.stage = .release →
    (n : Int) = (|(e.target.toNat : Int) - e.level.toNat| + |e.increment.toInt| - 1) / |e.increment.toInt| →
      1 ≤ n ∧
      (∀ k : Nat, k < n → (Envelope.ticks k e).stage = e.stage ∧ (Envelope.ticks k e).target = e.target ∧
        (Envelope.ticks k e).increment = e.increment ∧
        ((Envelope.ticks k e).level.toNat : Int) = e.level.toNat + k * e.increment.toInt) ∧
      (Envelope.ticks (n - 1) e).tick.1 = e.target.toNat ∧
      (Envelope.ticks n e).stage ≠ e.stage

/-- O48. Attack plus decay samples reach the sustain level; release samples reach Idle (42_envelope.md
R202). For every legal envelope: after a gate-on, some number of ticks not above attackTime +
decayTime leaves Sustain at exactly the sustain level; after a gate-off in Attack, Decay or Sustain,
some number of ticks not above releaseTime leaves Idle at level 0. -/
def Obligations.HeldNoteReachesSustainAndReleasedNoteReachesIdle : Prop :=
  ∀ (c : Config) (e : Envelope), c.Legal → e.Ok c →
    (∃ n : Nat, n ≤ e.attackTime.toNat + e.decayTime.toNat ∧
      (Envelope.ticks n e.gateOn).stage = .sustain ∧
      (Envelope.ticks n e.gateOn).level = e.sustainLevel) ∧
    (e.stage = .attack ∨ e.stage = .decay ∨ e.stage = .sustain →
      ∃ n : Nat, n ≤ e.releaseTime.toNat ∧
        (Envelope.ticks n e.gateOff).stage = .idle ∧ (Envelope.ticks n e.gateOff).level = 0#31)

/-- O49. VOICE.RENDERSAMPLE is oscillator, filter, envelope, amplitude, in that order (43_voice.md R223,
43_voice.md R224, 43_voice.md R227). The oscillator's sample goes through the filter; the filtered
sample is multiplied by the gain of this frame's tick and then by the amplitude, each product
rounded to nearest; active is cleared when the stage is Idle after the tick; nothing else changes. -/
def Obligations.VoiceRendersampleChainsTheBlocks : Prop :=
  ∀ s : State, ∃ (s1 s2 s3 : State),
    exec .oscAdvance s = .next s1 ∧ exec (.fltProcess s1.obs.value) s1 = .next s2 ∧
    exec .envTick s2 = .next s3 ∧
    exec .voiceRendersample s = .next { s3 with
      voice := { s3.voice with active := if s3.voice.env.stage = .idle then false else s.voice.active }
      obs := { s.obs with value :=
        (((s2.obs.value * s3.obs.value + 536870912) / 1073741824) * (s.voice.amplitude.toNat : Int)
          + 536870912) / 1073741824 } }

/-- O50. Every rendered sample lies in full scale, and is 0 when the envelope is Idle (43_voice.md R223,
43_voice.md R225, 00_scope.md R14). From every legal state VOICE.RENDERSAMPLE answers a next state
whose sample lies in -ONE .. ONE; with the envelope Idle before the frame the sample is exactly 0
and active is cleared, while the phase still advances by its increment. -/
def Obligations.RenderedSampleStaysInFullScale : Prop :=
  ∀ s : State, s.Ok → ∃ t, exec .voiceRendersample s = .next t ∧
    -Config.one ≤ t.obs.value ∧ t.obs.value ≤ Config.one ∧
    t.voice.osc.phase = s.voice.osc.phase + s.voice.osc.phaseIncrement ∧
    (s.voice.env.stage = .idle → t.obs.value = 0 ∧ t.voice.active = false)

/-- O51. RESET sets every piece of the block to its reset value and leaves the peripheral alone
(10_state.md R64, 70_reset_and_hazards.md R360, 70_reset_and_hazards.md R362). From every state
RESET leaves the values of the reset table in every register, both banks and every word of the loop,
and is what State.reset holds at the default parameters; the peripheral's position, and the model's
own fields (parameters, observations, trace; entry 12), are unchanged. -/
def Obligations.ResetLeavesTheResetTable : Prop :=
  (∀ s : State, ∃ t, exec .reset s = .next t ∧
    t.voice = {
      osc := { phase := 0#32, phaseIncrement := 0#32, waveform := .sine }
      flt := { cutoffCoefficient := 1073741824#31, resonance := 0#30, previousOutput := 0#32 }
      env := { stage := .idle, level := 0#31, increment := 0#32, target := 0#31, attackTime := 0#32
               decayTime := 0#32, releaseTime := 0#32, sustainLevel := 1073741824#31 }
      frequency := 0#32, amplitude := 1073741824#31, active := false } ∧
    t.rend = { frameIdx := 0#15, prevGate := false } ∧
    t.sched = { own := .A, busy := false, fillTarget := .A, underrunFlag := false, underrunCount := 0#32 } ∧
    t.snap.pubIdx = false ∧ t.snap.bank0 = t.snap.bank1 ∧
    t.snap.bank0 = { waveform := 0#32, cutoff := 1310720000#32, resonance := 0#32, attackMs := 0#32
                     decayMs := 0#32, sustain := 1073741824#32, releaseMs := 0#32, noteFreq := 0#32
                     gate := 0#32 } ∧
    (∀ w, t.out.readHalf w = 0#16) ∧
    t.txPos = s.txPos ∧ t.cfg = s.cfg ∧ t.obs = s.obs ∧ t.trace = s.trace) ∧
  exec .reset State.reset = .next State.reset ∧
  State.reset.cfg = { sampleRate := 48000, bufFrames := 256 }

/-- O52. TX.FRAME emits one frame of the loop, advances, and raises its event (45_output_scheduler.md
R277, 20_memory.md R82, 20_memory.md R85). With the position in the loop: the frame's two words are
appended to the stream, the position advances and wraps, and HT or TC is put at the head of the
trace (entry 5) after the last frame of the first or second half; nothing else changes. Outside the
loop, which no run reaches, the model's own fault stops it (entry 11). -/
def Obligations.TxFrameEmitsALoopFrame : Prop :=
  ∀ s : State,
    (s.txPos < 2 * s.cfg.bufFrames → exec .txFrame s = .next { s with
      obs := { s.obs with stream := s.obs.stream ++
        [(s.out.read (4 * s.txPos + 1) ++ s.out.read (4 * s.txPos),
          s.out.read (4 * s.txPos + 3) ++ s.out.read (4 * s.txPos + 2))] }
      txPos := if s.txPos + 1 = 2 * s.cfg.bufFrames then 0 else s.txPos + 1
      trace := if s.txPos + 1 = s.cfg.bufFrames then .event 1 :: s.trace
        else if s.txPos + 1 = 2 * s.cfg.bufFrames then .event 2 :: s.trace else s.trace }) ∧
    (2 * s.cfg.bufFrames ≤ s.txPos → exec .txFrame s = .fault .loopFrameOutOfRange)

/-- O53. A block start in the reset state changes nothing, and the block rendered there is silence
(10_state.md R65). At every legal pair of parameters: RENDER.BLOCKSTART in the reset state answers
the reset state itself; and from the reset state, the event HT and BUF_FRAMES frames leave every
word of the loop 0, the fill ended. That the frames run on an empty trace is the choice of the model
(entry 2). -/
def Obligations.ResetBlockIsSilent : Prop :=
  ∀ c : Config, c.Legal →
    exec .renderBlockstart (State.resetWith c) = .next (State.resetWith c) ∧
    ∃ t, runSteps (1 + c.bufFrames) { State.resetWith c with trace := [.event 1] } = .next t ∧
      t.sched.busy = false ∧ t.voice = (State.resetWith c).voice ∧ ∀ w, t.out.readHalf w = 0#16

/-- O54. The state after reset is legal at every legal pair of parameters (10_state.md R64, 10_state.md
R42). Every register of the reset state holds a legal value, the envelope invariants hold, the
sequencing registers agree and the loop is in its canonical form. -/
def Obligations.ResetIsLegal : Prop :=
  State.reset.Ok ∧ ∀ c : Config, c.Legal → (State.resetWith c).Ok

/-- O55. Every operation of the opcode table keeps every register legal (10_state.md R42, 10_state.md
R47, 10_state.md R51, 10_state.md R55, 45_output_scheduler.md R270, 93_implementation_defined.md
Z2). For every operation with every operand and every legal state, a next state is legal: the ranges
of the register table, the five envelope invariants, the frame index inside the block and 0 between
fills, the underrun flag set exactly when the count is not 0, fill target and ownership equal
without an underrun, the canonical loop. -/
def Obligations.EveryOperationKeepsLegality : Prop :=
  ∀ (i : Instr) (s t : State), s.Ok → exec i s = .next t → t.Ok

/-- O56. Every step keeps every register legal, whatever is presented (10_state.md R42, 10_state.md R47,
10_state.md R51, 10_state.md R55, 45_output_scheduler.md R270, 93_implementation_defined.md Z2). For
every legal state, reached by a run or not, and whatever its trace holds (also nothing, or EVT = 0:
entries 2 and 6), a next state of step is legal. -/
def Obligations.EveryStepKeepsLegality : Prop :=
  ∀ s t : State, s.Ok → step s = .next t → t.Ok

/-- O57. A legal state always steps, except on inputs no well-formed test contains (60_exceptions.md
R320, 70_reset_and_hazards.md R382, 93_implementation_defined.md X1, 93_implementation_defined.md
X2). From every legal state the step answers a next state, or the head of the trace is a frame with
no fill running, a transaction wider than 41 bits or an event wider than 2 bits, each refused by its
own name; it never faults. The choices of the model: what steps on an empty trace (entry 2), on EVT
= 0, dropped where X3 says that no step exists (entry 6), and the refusals of wide words, of which
the wide event is not in the list X1 to X3 (entry 7); the refused frame is entry 8. Every operation
but RENDER.FRAME answers a next state in every legal state. -/
def Obligations.LegalStatesNeverFault : Prop :=
  (∀ s : State, s.Ok →
    (∃ t, step s = .next t) ∨
    (∃ rest, s.trace = .frame :: rest ∧ s.sched.busy = false ∧ step s = .refused .noFillRunning) ∨
    (∃ x rest, s.trace = .host x :: rest ∧ 2 ^ 41 ≤ x ∧ step s = .refused .wideTransaction) ∨
    (∃ e rest, s.trace = .event e :: rest ∧ 4 ≤ e ∧ step s = .refused .wideEvent)) ∧
  (∀ (i : Instr) (s : State), s.Ok → i ≠ .renderFrame → ∃ t, exec i s = .next t)

/-- O58. Both events at once: HT, then TC, one or two underruns (60_exceptions.md R331, 30_encoding.md
R113). Presented with EVT = 3, two steps take SCHED.HT and then SCHED.TC, the rest of the trace
untouched (how the second follows the first is entry 5). With no fill running a fill of B has
started, ownership is A, and the count has risen by one; with a fill running the count has risen by
two (below saturation). -/
def Obligations.SimultaneousEventsAreAnUnderrun : Prop :=
  ∀ (s : State) (rest : List Signal), s.trace = .event 3 :: rest → s.sched.underrunCount.toNat + 2 < 2 ^ 32 →
    ∃ t, runSteps 2 s = .next t ∧ t.trace = rest ∧ t.sched.own = .A ∧ t.sched.busy = true ∧
      t.sched.underrunFlag = true ∧
      (s.sched.busy = false → t.sched.fillTarget = .B ∧
        t.sched.underrunCount.toNat = s.sched.underrunCount.toNat + 1) ∧
      (s.sched.busy = true → t.sched.fillTarget = s.sched.fillTarget ∧
        t.sched.underrunCount.toNat = s.sched.underrunCount.toNat + 2)

/-- O59. With every deadline met, the transmitted stream is the old loop and then the rendered frames,
in order (45_output_scheduler.md R279, 45_output_scheduler.md R278, 44_render_engine.md R249). From
every legal state between fills with the peripheral at the start of the loop, on every trace that
meets R278 (the frames of a fill before the next event, interleaved in any way with the transmit
steps and with host accesses): T transmit steps emit the first T of the loop's old frames followed
by what the RENDER.FRAME steps produce, in order, none lost or repeated; no underrun is recorded; a
fill is running exactly if frames of it are to come. With no host access in the trace the frames
produced are those the Voice renders after one block start. (The events stand at the head of the
trace when raised: entry 5. R279 states it from reset.) -/
def Obligations.TransmittedStreamIsTheRenderedStream : Prop :=
  ∀ (s : State) (l : List Signal) (n : Nat), s.Ok → s.sched.busy = false → s.txPos = 0 → s.trace = l →
    deadlineMet s.cfg.bufFrames 0 0 l = true → n = l.length + l.count .transmit / s.cfg.bufFrames →
    ∃ t, runSteps n s = .next t ∧
      t.obs.stream = s.obs.stream ++
        (loopFrames s.cfg s.out ++ producedFrames n s).take (l.count .transmit) ∧
      t.sched.underrunCount = s.sched.underrunCount ∧ t.sched.underrunFlag = s.sched.underrunFlag ∧
      (t.sched.busy = true ↔ l.count .frame < s.cfg.bufFrames * (l.count .transmit / s.cfg.bufFrames)) ∧
      t.trace = [] ∧
      ((∀ x, Signal.host x ∉ l) → producedFrames n s = renderedFrames (l.count .frame) (blockStart s).voice)

/-- O60. The product keeps its bounds and the quotient away from zero covers the distance (00_scope.md
R14, 00_scope.md R16). qmul(a, ONE) = a and qmul(a, 0) = 0 for every a, and for 0 <= b <= ONE it
lies between 0 and a. divAway(d, n) for n >= 1 has the sign of d, is at least 1 in magnitude when d
is not 0, covers d in n steps, and is not larger than d. -/
def Obligations.DatapathArithmeticIsBounded : Prop :=
  (∀ a b : Int, qmul a Config.one = a ∧ qmul a 0 = 0 ∧
    (0 ≤ b → b ≤ Config.one → (0 ≤ a → 0 ≤ qmul a b ∧ qmul a b ≤ a) ∧ (a ≤ 0 → a ≤ qmul a b ∧ qmul a b ≤ 0))) ∧
  (∀ d n : Int, 1 ≤ n → (0 < d ↔ 0 < divAway d n) ∧ (d < 0 ↔ divAway d n < 0) ∧
    |d| ≤ n * |divAway d n| ∧ |divAway d n| ≤ |d| ∧ n * (|divAway d n| - 1) ≤ |d|)
end

