-- ==== Sys2Proof/Laws/Decode.lean ====
section
/-!
SUPPORT. The three fields of a transaction word, and what it decodes to (30_encoding.md R111, R112).
-/

namespace Sys2Proof

theorem hostWord_lt (we : Bool) (addr : Offset) (data : Word) : hostWord we addr data < 2 ^ 41 := by
  have h1 := addr.isLt
  have h2 := data.isLt
  cases we <;> simp only [hostWord, Bool.toNat_true, Bool.toNat_false] <;> omega

@[simp] theorem hostWe_hostWord (we : Bool) (addr : Offset) (data : Word) :
    hostWe (hostWord we addr data) = we := by
  have h1 := addr.isLt
  have h2 := data.isLt
  cases we
  · have : (false.toNat * 2 ^ 40 + addr.toNat * 2 ^ 32 + data.toNat) / 2 ^ 40 % 2 = 0 := by
      simp only [Bool.toNat_false]; omega
    simp only [hostWe, hostWord, this]; rfl
  · have : (true.toNat * 2 ^ 40 + addr.toNat * 2 ^ 32 + data.toNat) / 2 ^ 40 % 2 = 1 := by
      simp only [Bool.toNat_true]; omega
    simp only [hostWe, hostWord, this]; rfl

@[simp] theorem hostAddr_hostWord (we : Bool) (addr : Offset) (data : Word) :
    hostAddr (hostWord we addr data) = addr := by
  apply BitVec.eq_of_toNat_eq
  have h1 := addr.isLt
  have h2 := data.isLt
  simp only [hostAddr, hostWord, BitVec.toNat_ofNat]
  cases we <;> simp only [Bool.toNat_false, Bool.toNat_true] <;> omega

@[simp] theorem hostData_hostWord (we : Bool) (addr : Offset) (data : Word) :
    hostData (hostWord we addr data) = data := by
  apply BitVec.eq_of_toNat_eq
  have h1 := addr.isLt
  have h2 := data.isLt
  simp only [hostData, hostWord, BitVec.toNat_ofNat]
  cases we <;> simp only [Bool.toNat_false, Bool.toNat_true] <;> omega

/-- A 41-bit word is the word of its three fields. -/
theorem hostWord_fields {x : Nat} (h : x < 2 ^ 41) : hostWord (hostWe x) (hostAddr x) (hostData x) = x := by
  simp only [hostWord, hostAddr, hostData, BitVec.toNat_ofNat]
  rcases Nat.mod_two_eq_zero_or_one (x / 2 ^ 40) with hb | hb
  · have : hostWe x = false := by simp only [hostWe, hb]; rfl
    simp only [this, Bool.toNat_false]; omega
  · have : hostWe x = true := by simp only [hostWe, hb]; rfl
    simp only [this, Bool.toNat_true]; omega

/-- A transaction word decodes to the operation of its three fields. -/
@[simp] theorem decode_hostWord (we : Bool) (addr : Offset) (data : Word) :
    decode (.host (hostWord we addr data)) = .instr (decodeFields we addr data) [] := by
  have h := hostWord_lt we addr data
  simp only [decode, decodeHost, if_pos h, hostWe_hostWord, hostAddr_hostWord, hostData_hostWord]

end Sys2Proof
end

