-- ==== Sys2Proof/Laws/Operands.lean ====
section
/-!
SUPPORT. What the fixed-point arithmetic does, each function once.
-/

namespace Sys2Proof.Machine

theorem rnd7_eq (p : Int) : rnd 7 p = (p + 64) / 128 := by norm_num [rnd]
theorem rnd15_eq (p : Int) : rnd 15 p = (p + 16384) / 32768 := by norm_num [rnd]
theorem rnd30_eq (p : Int) : rnd 30 p = (p + 536870912) / 1073741824 := by norm_num [rnd]
theorem qmul_eq (a b : Int) : qmul a b = (a * b + 536870912) / 1073741824 := rnd30_eq _

/-- Everything `clamp` can answer. -/
theorem clamp_cases (v lo hi : Int) :
    (v < lo ∧ clamp v lo hi = lo) ∨ (lo ≤ v ∧ hi < v ∧ clamp v lo hi = hi) ∨
      (lo ≤ v ∧ v ≤ hi ∧ clamp v lo hi = v) := by
  unfold clamp
  split
  · exact .inl ⟨‹_›, rfl⟩
  · split
    · exact .inr (.inl ⟨by omega, ‹_›, rfl⟩)
    · exact .inr (.inr ⟨by omega, by omega, rfl⟩)

theorem le_clamp {v lo hi : Int} (h : lo ≤ hi) : lo ≤ clamp v lo hi := by
  rcases clamp_cases v lo hi with h1 | h1 | h1 <;> omega

theorem clamp_le {v lo hi : Int} (h : lo ≤ hi) : clamp v lo hi ≤ hi := by
  rcases clamp_cases v lo hi with h1 | h1 | h1 <;> omega

theorem clamp_of_mem {v lo hi : Int} (h : lo ≤ v) (h' : v ≤ hi) : clamp v lo hi = v := by
  rcases clamp_cases v lo hi with h1 | h1 | h1 <;> omega

/-- Everything `clampNat` can answer. -/
theorem clampNat_cases (v lo hi : Nat) :
    (v < lo ∧ clampNat v lo hi = lo) ∨ (lo ≤ v ∧ hi < v ∧ clampNat v lo hi = hi) ∨
      (lo ≤ v ∧ v ≤ hi ∧ clampNat v lo hi = v) := by
  unfold clampNat
  split
  · exact .inl ⟨‹_›, rfl⟩
  · split
    · exact .inr (.inl ⟨by omega, ‹_›, rfl⟩)
    · exact .inr (.inr ⟨by omega, by omega, rfl⟩)

/-- A signed 32-bit register holds what it is given when that fits. -/
theorem toInt_ofInt32 {v : Int} (h : -2147483648 ≤ v) (h' : v < 2147483648) :
    (BitVec.ofInt 32 v).toInt = v := by
  rw [BitVec.toInt_ofInt, Int.bmod_eq_of_le] <;> norm_num <;> omega

/-- A 31-bit level holds what it is given when that fits. -/
theorem toNat_ofInt31 {v : Int} (h : 0 ≤ v) (h' : v < 2147483648) :
    ((BitVec.ofInt 31 v).toNat : Int) = v := by
  rw [BitVec.toNat_ofInt]
  norm_num
  omega

theorem coefficientOf_toNat (c : Config) (cut : Word) :
    (coefficientOf c cut).toNat = clampNat
      (Config.twoPiQ28 * clampNat cut.toNat Config.cutoffMin Config.cutoffMax / (c.sampleRate * 16384))
      1 Config.oneNat := by
  rw [coefficientOf, BitVec.toNat_ofNat]
  refine Nat.mod_eq_of_lt ?_
  rcases clampNat_cases (Config.twoPiQ28 * clampNat cut.toNat Config.cutoffMin Config.cutoffMax /
    (c.sampleRate * 16384)) 1 Config.oneNat with ⟨_, h⟩ | ⟨_, _, h⟩ | ⟨_, hle, h⟩ <;> rw [h]
  · decide
  · decide
  · exact lt_of_le_of_lt hle (by decide)

theorem resonanceOf_toNat (r : Word) : (resonanceOf r).toNat = min r.toNat Config.resMax := by
  rw [resonanceOf, BitVec.toNat_ofNat, Config.resMax]
  omega

theorem unitOf_toNat (p : Word) : (unitOf p).toNat = min p.toNat Config.oneNat := by
  rw [unitOf, BitVec.toNat_ofNat, Config.oneNat]
  omega

theorem samplesOf_toNat {c : Config} (h : c.Legal) (ms : Word) :
    (samplesOf c ms).toNat = min ms.toNat Config.msMax * c.sampleRate / 1000 := by
  rw [samplesOf, BitVec.toNat_ofNat]
  refine Nat.mod_eq_of_lt ?_
  have h1 : min ms.toNat Config.msMax * c.sampleRate ≤ 5000 * 96000 :=
    Nat.mul_le_mul (min_le_right _ _) h.1.2
  omega

end Sys2Proof.Machine
end

