-- ==== Sys2Proof/Laws/State.lean ====
section
/-!
SUPPORT. One lemma per field per update of State, true by unfolding, so that no later proof unfolds
a record update.
-/

namespace Sys2Proof.Machine

@[simp] theorem State.setVoice_cfg (v : Voice) (s : State) : (s.setVoice v).cfg = s.cfg := rfl
@[simp] theorem State.setVoice_voice (v : Voice) (s : State) : (s.setVoice v).voice = v := rfl
@[simp] theorem State.setVoice_rend (v : Voice) (s : State) : (s.setVoice v).rend = s.rend := rfl
@[simp] theorem State.setVoice_sched (v : Voice) (s : State) : (s.setVoice v).sched = s.sched := rfl
@[simp] theorem State.setVoice_snap (v : Voice) (s : State) : (s.setVoice v).snap = s.snap := rfl
@[simp] theorem State.setVoice_out (v : Voice) (s : State) : (s.setVoice v).out = s.out := rfl
@[simp] theorem State.setVoice_txPos (v : Voice) (s : State) : (s.setVoice v).txPos = s.txPos := rfl
@[simp] theorem State.setVoice_obs (v : Voice) (s : State) : (s.setVoice v).obs = s.obs := rfl
@[simp] theorem State.setVoice_trace (v : Voice) (s : State) : (s.setVoice v).trace = s.trace := rfl

@[simp] theorem State.setRend_cfg (r : Render) (s : State) : (s.setRend r).cfg = s.cfg := rfl
@[simp] theorem State.setRend_voice (r : Render) (s : State) : (s.setRend r).voice = s.voice := rfl
@[simp] theorem State.setRend_rend (r : Render) (s : State) : (s.setRend r).rend = r := rfl
@[simp] theorem State.setRend_sched (r : Render) (s : State) : (s.setRend r).sched = s.sched := rfl
@[simp] theorem State.setRend_snap (r : Render) (s : State) : (s.setRend r).snap = s.snap := rfl
@[simp] theorem State.setRend_out (r : Render) (s : State) : (s.setRend r).out = s.out := rfl
@[simp] theorem State.setRend_txPos (r : Render) (s : State) : (s.setRend r).txPos = s.txPos := rfl
@[simp] theorem State.setRend_obs (r : Render) (s : State) : (s.setRend r).obs = s.obs := rfl
@[simp] theorem State.setRend_trace (r : Render) (s : State) : (s.setRend r).trace = s.trace := rfl

@[simp] theorem State.setSched_cfg (c : Scheduler) (s : State) : (s.setSched c).cfg = s.cfg := rfl
@[simp] theorem State.setSched_voice (c : Scheduler) (s : State) : (s.setSched c).voice = s.voice := rfl
@[simp] theorem State.setSched_rend (c : Scheduler) (s : State) : (s.setSched c).rend = s.rend := rfl
@[simp] theorem State.setSched_sched (c : Scheduler) (s : State) : (s.setSched c).sched = c := rfl
@[simp] theorem State.setSched_snap (c : Scheduler) (s : State) : (s.setSched c).snap = s.snap := rfl
@[simp] theorem State.setSched_out (c : Scheduler) (s : State) : (s.setSched c).out = s.out := rfl
@[simp] theorem State.setSched_txPos (c : Scheduler) (s : State) : (s.setSched c).txPos = s.txPos := rfl
@[simp] theorem State.setSched_obs (c : Scheduler) (s : State) : (s.setSched c).obs = s.obs := rfl
@[simp] theorem State.setSched_trace (c : Scheduler) (s : State) : (s.setSched c).trace = s.trace := rfl

@[simp] theorem State.setSnap_cfg (b : Banks) (s : State) : (s.setSnap b).cfg = s.cfg := rfl
@[simp] theorem State.setSnap_voice (b : Banks) (s : State) : (s.setSnap b).voice = s.voice := rfl
@[simp] theorem State.setSnap_rend (b : Banks) (s : State) : (s.setSnap b).rend = s.rend := rfl
@[simp] theorem State.setSnap_sched (b : Banks) (s : State) : (s.setSnap b).sched = s.sched := rfl
@[simp] theorem State.setSnap_snap (b : Banks) (s : State) : (s.setSnap b).snap = b := rfl
@[simp] theorem State.setSnap_out (b : Banks) (s : State) : (s.setSnap b).out = s.out := rfl
@[simp] theorem State.setSnap_txPos (b : Banks) (s : State) : (s.setSnap b).txPos = s.txPos := rfl
@[simp] theorem State.setSnap_obs (b : Banks) (s : State) : (s.setSnap b).obs = s.obs := rfl
@[simp] theorem State.setSnap_trace (b : Banks) (s : State) : (s.setSnap b).trace = s.trace := rfl

@[simp] theorem State.setOut_cfg (m : Memory) (s : State) : (s.setOut m).cfg = s.cfg := rfl
@[simp] theorem State.setOut_voice (m : Memory) (s : State) : (s.setOut m).voice = s.voice := rfl
@[simp] theorem State.setOut_rend (m : Memory) (s : State) : (s.setOut m).rend = s.rend := rfl
@[simp] theorem State.setOut_sched (m : Memory) (s : State) : (s.setOut m).sched = s.sched := rfl
@[simp] theorem State.setOut_snap (m : Memory) (s : State) : (s.setOut m).snap = s.snap := rfl
@[simp] theorem State.setOut_out (m : Memory) (s : State) : (s.setOut m).out = m := rfl
@[simp] theorem State.setOut_txPos (m : Memory) (s : State) : (s.setOut m).txPos = s.txPos := rfl
@[simp] theorem State.setOut_obs (m : Memory) (s : State) : (s.setOut m).obs = s.obs := rfl
@[simp] theorem State.setOut_trace (m : Memory) (s : State) : (s.setOut m).trace = s.trace := rfl

@[simp] theorem State.setTxPos_cfg (p : Nat) (s : State) : (s.setTxPos p).cfg = s.cfg := rfl
@[simp] theorem State.setTxPos_voice (p : Nat) (s : State) : (s.setTxPos p).voice = s.voice := rfl
@[simp] theorem State.setTxPos_rend (p : Nat) (s : State) : (s.setTxPos p).rend = s.rend := rfl
@[simp] theorem State.setTxPos_sched (p : Nat) (s : State) : (s.setTxPos p).sched = s.sched := rfl
@[simp] theorem State.setTxPos_snap (p : Nat) (s : State) : (s.setTxPos p).snap = s.snap := rfl
@[simp] theorem State.setTxPos_out (p : Nat) (s : State) : (s.setTxPos p).out = s.out := rfl
@[simp] theorem State.setTxPos_txPos (p : Nat) (s : State) : (s.setTxPos p).txPos = p := rfl
@[simp] theorem State.setTxPos_obs (p : Nat) (s : State) : (s.setTxPos p).obs = s.obs := rfl
@[simp] theorem State.setTxPos_trace (p : Nat) (s : State) : (s.setTxPos p).trace = s.trace := rfl

@[simp] theorem State.setObs_cfg (o : Observed) (s : State) : (s.setObs o).cfg = s.cfg := rfl
@[simp] theorem State.setObs_voice (o : Observed) (s : State) : (s.setObs o).voice = s.voice := rfl
@[simp] theorem State.setObs_rend (o : Observed) (s : State) : (s.setObs o).rend = s.rend := rfl
@[simp] theorem State.setObs_sched (o : Observed) (s : State) : (s.setObs o).sched = s.sched := rfl
@[simp] theorem State.setObs_snap (o : Observed) (s : State) : (s.setObs o).snap = s.snap := rfl
@[simp] theorem State.setObs_out (o : Observed) (s : State) : (s.setObs o).out = s.out := rfl
@[simp] theorem State.setObs_txPos (o : Observed) (s : State) : (s.setObs o).txPos = s.txPos := rfl
@[simp] theorem State.setObs_obs (o : Observed) (s : State) : (s.setObs o).obs = o := rfl
@[simp] theorem State.setObs_trace (o : Observed) (s : State) : (s.setObs o).trace = s.trace := rfl

@[simp] theorem State.setTrace_cfg (t : List Signal) (s : State) : (s.setTrace t).cfg = s.cfg := rfl
@[simp] theorem State.setTrace_voice (t : List Signal) (s : State) : (s.setTrace t).voice = s.voice := rfl
@[simp] theorem State.setTrace_rend (t : List Signal) (s : State) : (s.setTrace t).rend = s.rend := rfl
@[simp] theorem State.setTrace_sched (t : List Signal) (s : State) : (s.setTrace t).sched = s.sched := rfl
@[simp] theorem State.setTrace_snap (t : List Signal) (s : State) : (s.setTrace t).snap = s.snap := rfl
@[simp] theorem State.setTrace_out (t : List Signal) (s : State) : (s.setTrace t).out = s.out := rfl
@[simp] theorem State.setTrace_txPos (t : List Signal) (s : State) : (s.setTrace t).txPos = s.txPos := rfl
@[simp] theorem State.setTrace_obs (t : List Signal) (s : State) : (s.setTrace t).obs = s.obs := rfl
@[simp] theorem State.setTrace_trace (t : List Signal) (s : State) : (s.setTrace t).trace = t := rfl

@[simp] theorem State.setOsc_cfg (o : Oscillator) (s : State) : (s.setOsc o).cfg = s.cfg := rfl
@[simp] theorem State.setOsc_voice (o : Oscillator) (s : State) : (s.setOsc o).voice = { s.voice with osc := o } := rfl
@[simp] theorem State.setOsc_rend (o : Oscillator) (s : State) : (s.setOsc o).rend = s.rend := rfl
@[simp] theorem State.setOsc_sched (o : Oscillator) (s : State) : (s.setOsc o).sched = s.sched := rfl
@[simp] theorem State.setOsc_snap (o : Oscillator) (s : State) : (s.setOsc o).snap = s.snap := rfl
@[simp] theorem State.setOsc_out (o : Oscillator) (s : State) : (s.setOsc o).out = s.out := rfl
@[simp] theorem State.setOsc_txPos (o : Oscillator) (s : State) : (s.setOsc o).txPos = s.txPos := rfl
@[simp] theorem State.setOsc_obs (o : Oscillator) (s : State) : (s.setOsc o).obs = s.obs := rfl
@[simp] theorem State.setOsc_trace (o : Oscillator) (s : State) : (s.setOsc o).trace = s.trace := rfl

@[simp] theorem State.setFlt_cfg (f : Filter) (s : State) : (s.setFlt f).cfg = s.cfg := rfl
@[simp] theorem State.setFlt_voice (f : Filter) (s : State) : (s.setFlt f).voice = { s.voice with flt := f } := rfl
@[simp] theorem State.setFlt_rend (f : Filter) (s : State) : (s.setFlt f).rend = s.rend := rfl
@[simp] theorem State.setFlt_sched (f : Filter) (s : State) : (s.setFlt f).sched = s.sched := rfl
@[simp] theorem State.setFlt_snap (f : Filter) (s : State) : (s.setFlt f).snap = s.snap := rfl
@[simp] theorem State.setFlt_out (f : Filter) (s : State) : (s.setFlt f).out = s.out := rfl
@[simp] theorem State.setFlt_txPos (f : Filter) (s : State) : (s.setFlt f).txPos = s.txPos := rfl
@[simp] theorem State.setFlt_obs (f : Filter) (s : State) : (s.setFlt f).obs = s.obs := rfl
@[simp] theorem State.setFlt_trace (f : Filter) (s : State) : (s.setFlt f).trace = s.trace := rfl

@[simp] theorem State.setEnv_cfg (e : Envelope) (s : State) : (s.setEnv e).cfg = s.cfg := rfl
@[simp] theorem State.setEnv_voice (e : Envelope) (s : State) : (s.setEnv e).voice = { s.voice with env := e } := rfl
@[simp] theorem State.setEnv_rend (e : Envelope) (s : State) : (s.setEnv e).rend = s.rend := rfl
@[simp] theorem State.setEnv_sched (e : Envelope) (s : State) : (s.setEnv e).sched = s.sched := rfl
@[simp] theorem State.setEnv_snap (e : Envelope) (s : State) : (s.setEnv e).snap = s.snap := rfl
@[simp] theorem State.setEnv_out (e : Envelope) (s : State) : (s.setEnv e).out = s.out := rfl
@[simp] theorem State.setEnv_txPos (e : Envelope) (s : State) : (s.setEnv e).txPos = s.txPos := rfl
@[simp] theorem State.setEnv_obs (e : Envelope) (s : State) : (s.setEnv e).obs = s.obs := rfl
@[simp] theorem State.setEnv_trace (e : Envelope) (s : State) : (s.setEnv e).trace = s.trace := rfl

@[simp] theorem State.hostReturns_cfg (v : Word) (s : State) : (s.hostReturns v).cfg = s.cfg := rfl
@[simp] theorem State.hostReturns_voice (v : Word) (s : State) : (s.hostReturns v).voice = s.voice := rfl
@[simp] theorem State.hostReturns_rend (v : Word) (s : State) : (s.hostReturns v).rend = s.rend := rfl
@[simp] theorem State.hostReturns_sched (v : Word) (s : State) : (s.hostReturns v).sched = s.sched := rfl
@[simp] theorem State.hostReturns_snap (v : Word) (s : State) : (s.hostReturns v).snap = s.snap := rfl
@[simp] theorem State.hostReturns_out (v : Word) (s : State) : (s.hostReturns v).out = s.out := rfl
@[simp] theorem State.hostReturns_txPos (v : Word) (s : State) : (s.hostReturns v).txPos = s.txPos := rfl
@[simp] theorem State.hostReturns_obs (v : Word) (s : State) : (s.hostReturns v).obs = { s.obs with reads := s.obs.reads ++ [v] } := rfl
@[simp] theorem State.hostReturns_trace (v : Word) (s : State) : (s.hostReturns v).trace = s.trace := rfl

@[simp] theorem State.returns_cfg (v : Int) (s : State) : (s.returns v).cfg = s.cfg := rfl
@[simp] theorem State.returns_voice (v : Int) (s : State) : (s.returns v).voice = s.voice := rfl
@[simp] theorem State.returns_rend (v : Int) (s : State) : (s.returns v).rend = s.rend := rfl
@[simp] theorem State.returns_sched (v : Int) (s : State) : (s.returns v).sched = s.sched := rfl
@[simp] theorem State.returns_snap (v : Int) (s : State) : (s.returns v).snap = s.snap := rfl
@[simp] theorem State.returns_out (v : Int) (s : State) : (s.returns v).out = s.out := rfl
@[simp] theorem State.returns_txPos (v : Int) (s : State) : (s.returns v).txPos = s.txPos := rfl
@[simp] theorem State.returns_obs (v : Int) (s : State) : (s.returns v).obs = { s.obs with value := v } := rfl
@[simp] theorem State.returns_trace (v : Int) (s : State) : (s.returns v).trace = s.trace := rfl

@[simp] theorem State.raises_cfg (e : Nat) (s : State) : (s.raises e).cfg = s.cfg := rfl
@[simp] theorem State.raises_voice (e : Nat) (s : State) : (s.raises e).voice = s.voice := rfl
@[simp] theorem State.raises_rend (e : Nat) (s : State) : (s.raises e).rend = s.rend := rfl
@[simp] theorem State.raises_sched (e : Nat) (s : State) : (s.raises e).sched = s.sched := rfl
@[simp] theorem State.raises_snap (e : Nat) (s : State) : (s.raises e).snap = s.snap := rfl
@[simp] theorem State.raises_out (e : Nat) (s : State) : (s.raises e).out = s.out := rfl
@[simp] theorem State.raises_txPos (e : Nat) (s : State) : (s.raises e).txPos = s.txPos := rfl
@[simp] theorem State.raises_obs (e : Nat) (s : State) : (s.raises e).obs = s.obs := rfl
@[simp] theorem State.raises_trace (e : Nat) (s : State) : (s.raises e).trace = .event e :: s.trace := rfl

@[simp] theorem State.emits_cfg (l r : Half) (s : State) : (s.emits l r).cfg = s.cfg := rfl
@[simp] theorem State.emits_voice (l r : Half) (s : State) : (s.emits l r).voice = s.voice := rfl
@[simp] theorem State.emits_rend (l r : Half) (s : State) : (s.emits l r).rend = s.rend := rfl
@[simp] theorem State.emits_sched (l r : Half) (s : State) : (s.emits l r).sched = s.sched := rfl
@[simp] theorem State.emits_snap (l r : Half) (s : State) : (s.emits l r).snap = s.snap := rfl
@[simp] theorem State.emits_out (l r : Half) (s : State) : (s.emits l r).out = s.out := rfl
@[simp] theorem State.emits_txPos (l r : Half) (s : State) : (s.emits l r).txPos = s.txPos := rfl
@[simp] theorem State.emits_obs (l r : Half) (s : State) : (s.emits l r).obs = { s.obs with stream := s.obs.stream ++ [(l, r)] } := rfl
@[simp] theorem State.emits_trace (l r : Half) (s : State) : (s.emits l r).trace = s.trace := rfl

@[simp] theorem Oscillator.setFreq_phase (c : Config) (f : Word) (o : Oscillator) :
    (o.setFreq c f).phase = o.phase := rfl
@[simp] theorem Oscillator.setFreq_phaseIncrement (c : Config) (f : Word) (o : Oscillator) :
    (o.setFreq c f).phaseIncrement = incrementOf c f := rfl
@[simp] theorem Oscillator.setFreq_waveform (c : Config) (f : Word) (o : Oscillator) :
    (o.setFreq c f).waveform = o.waveform := rfl
@[simp] theorem Oscillator.setWave_phase (w : Word) (o : Oscillator) : (o.setWave w).phase = o.phase := rfl
@[simp] theorem Oscillator.setWave_phaseIncrement (w : Word) (o : Oscillator) :
    (o.setWave w).phaseIncrement = o.phaseIncrement := rfl
@[simp] theorem Oscillator.setWave_waveform (w : Word) (o : Oscillator) :
    (o.setWave w).waveform = waveformOf w := rfl
@[simp] theorem Oscillator.step_phase (o : Oscillator) : o.step.phase = o.phase + o.phaseIncrement := rfl
@[simp] theorem Oscillator.step_phaseIncrement (o : Oscillator) :
    o.step.phaseIncrement = o.phaseIncrement := rfl
@[simp] theorem Oscillator.step_waveform (o : Oscillator) : o.step.waveform = o.waveform := rfl
@[simp] theorem Oscillator.advance_fst (o : Oscillator) :
    o.advance.1 = wave o.waveform (o.phase + o.phaseIncrement) := rfl
@[simp] theorem Oscillator.advance_snd (o : Oscillator) : o.advance.2 = o.step := rfl

@[simp] theorem Filter.process_fst (x : Int) (f : Filter) : (f.process x).1 = f.output x := by simp only [Filter.process]
@[simp] theorem Filter.process_previousOutput (x : Int) (f : Filter) :
    (f.process x).2.previousOutput = BitVec.ofInt 32 (f.output x) := by simp only [Filter.process]
@[simp] theorem Filter.process_cutoffCoefficient (x : Int) (f : Filter) :
    (f.process x).2.cutoffCoefficient = f.cutoffCoefficient := by simp only [Filter.process]
@[simp] theorem Filter.process_resonance (x : Int) (f : Filter) :
    (f.process x).2.resonance = f.resonance := by simp only [Filter.process]
@[simp] theorem Filter.setCutoff_cutoffCoefficient (c : Config) (w : Word) (f : Filter) :
    (f.setCutoff c w).cutoffCoefficient = coefficientOf c w := by simp only [Filter.setCutoff]
@[simp] theorem Filter.setCutoff_resonance (c : Config) (w : Word) (f : Filter) :
    (f.setCutoff c w).resonance = f.resonance := by simp only [Filter.setCutoff]
@[simp] theorem Filter.setCutoff_previousOutput (c : Config) (w : Word) (f : Filter) :
    (f.setCutoff c w).previousOutput = f.previousOutput := by simp only [Filter.setCutoff]
@[simp] theorem Filter.setRes_cutoffCoefficient (w : Word) (f : Filter) :
    (f.setRes w).cutoffCoefficient = f.cutoffCoefficient := by simp only [Filter.setRes]
@[simp] theorem Filter.setRes_resonance (w : Word) (f : Filter) :
    (f.setRes w).resonance = resonanceOf w := by simp only [Filter.setRes]
@[simp] theorem Filter.setRes_previousOutput (w : Word) (f : Filter) :
    (f.setRes w).previousOutput = f.previousOutput := by simp only [Filter.setRes]

@[simp] theorem Envelope.setParams_stage (c : Config) (a d sl rl : Word) (e : Envelope) :
    (e.setParams c a d sl rl).stage = e.stage := rfl
@[simp] theorem Envelope.setParams_level (c : Config) (a d sl rl : Word) (e : Envelope) :
    (e.setParams c a d sl rl).level = e.level := rfl
@[simp] theorem Envelope.setParams_increment (c : Config) (a d sl rl : Word) (e : Envelope) :
    (e.setParams c a d sl rl).increment = e.increment := rfl
@[simp] theorem Envelope.setParams_target (c : Config) (a d sl rl : Word) (e : Envelope) :
    (e.setParams c a d sl rl).target = e.target := rfl
@[simp] theorem Envelope.setParams_attackTime (c : Config) (a d sl rl : Word) (e : Envelope) :
    (e.setParams c a d sl rl).attackTime = samplesOf c a := rfl
@[simp] theorem Envelope.setParams_decayTime (c : Config) (a d sl rl : Word) (e : Envelope) :
    (e.setParams c a d sl rl).decayTime = samplesOf c d := rfl
@[simp] theorem Envelope.setParams_releaseTime (c : Config) (a d sl rl : Word) (e : Envelope) :
    (e.setParams c a d sl rl).releaseTime = samplesOf c rl := rfl
@[simp] theorem Envelope.setParams_sustainLevel (c : Config) (a d sl rl : Word) (e : Envelope) :
    (e.setParams c a d sl rl).sustainLevel = unitOf sl := rfl
@[simp] theorem Envelope.beginRamp_stage (st : Stage) (tg : BitVec 31) (dur : BitVec 32) (e : Envelope) :
    (e.beginRamp st tg dur).stage = st := rfl
@[simp] theorem Envelope.beginRamp_level (st : Stage) (tg : BitVec 31) (dur : BitVec 32) (e : Envelope) :
    (e.beginRamp st tg dur).level = e.level := rfl
@[simp] theorem Envelope.beginRamp_increment (st : Stage) (tg : BitVec 31) (dur : BitVec 32) (e : Envelope) :
    (e.beginRamp st tg dur).increment
      = BitVec.ofInt 32 (divAway ((tg.toNat : Int) - e.level.toNat) dur.toNat) := rfl
@[simp] theorem Envelope.beginRamp_target (st : Stage) (tg : BitVec 31) (dur : BitVec 32) (e : Envelope) :
    (e.beginRamp st tg dur).target = tg := rfl
@[simp] theorem Envelope.beginRamp_attackTime (st : Stage) (tg : BitVec 31) (dur : BitVec 32) (e : Envelope) :
    (e.beginRamp st tg dur).attackTime = e.attackTime := rfl
@[simp] theorem Envelope.beginRamp_decayTime (st : Stage) (tg : BitVec 31) (dur : BitVec 32) (e : Envelope) :
    (e.beginRamp st tg dur).decayTime = e.decayTime := rfl
@[simp] theorem Envelope.beginRamp_releaseTime (st : Stage) (tg : BitVec 31) (dur : BitVec 32) (e : Envelope) :
    (e.beginRamp st tg dur).releaseTime = e.releaseTime := rfl
@[simp] theorem Envelope.beginRamp_sustainLevel (st : Stage) (tg : BitVec 31) (dur : BitVec 32) (e : Envelope) :
    (e.beginRamp st tg dur).sustainLevel = e.sustainLevel := rfl
@[simp] theorem Envelope.completeDecay_stage (e : Envelope) : e.completeDecay.stage = .sustain := rfl
@[simp] theorem Envelope.completeDecay_level (e : Envelope) : e.completeDecay.level = e.level := rfl
@[simp] theorem Envelope.completeDecay_increment (e : Envelope) : e.completeDecay.increment = 0#32 := rfl
@[simp] theorem Envelope.completeDecay_target (e : Envelope) : e.completeDecay.target = e.level := rfl
@[simp] theorem Envelope.completeDecay_attackTime (e : Envelope) : e.completeDecay.attackTime = e.attackTime := rfl
@[simp] theorem Envelope.completeDecay_decayTime (e : Envelope) : e.completeDecay.decayTime = e.decayTime := rfl
@[simp] theorem Envelope.completeDecay_releaseTime (e : Envelope) : e.completeDecay.releaseTime = e.releaseTime := rfl
@[simp] theorem Envelope.completeDecay_sustainLevel (e : Envelope) : e.completeDecay.sustainLevel = e.sustainLevel := rfl
@[simp] theorem Envelope.completeRelease_stage (e : Envelope) : e.completeRelease.stage = .idle := rfl
@[simp] theorem Envelope.completeRelease_level (e : Envelope) : e.completeRelease.level = e.level := rfl
@[simp] theorem Envelope.completeRelease_increment (e : Envelope) : e.completeRelease.increment = 0#32 := rfl
@[simp] theorem Envelope.completeRelease_target (e : Envelope) : e.completeRelease.target = 0#31 := rfl
@[simp] theorem Envelope.completeRelease_attackTime (e : Envelope) : e.completeRelease.attackTime = e.attackTime := rfl
@[simp] theorem Envelope.completeRelease_decayTime (e : Envelope) : e.completeRelease.decayTime = e.decayTime := rfl
@[simp] theorem Envelope.completeRelease_releaseTime (e : Envelope) : e.completeRelease.releaseTime = e.releaseTime := rfl
@[simp] theorem Envelope.completeRelease_sustainLevel (e : Envelope) : e.completeRelease.sustainLevel = e.sustainLevel := rfl
@[simp] theorem Envelope.ramped_stage (e : Envelope) : e.ramped.stage = e.stage := rfl
@[simp] theorem Envelope.ramped_level (e : Envelope) : e.ramped.level = BitVec.ofInt 31 (clamp e.rampValue 0 Config.one) := rfl
@[simp] theorem Envelope.ramped_increment (e : Envelope) : e.ramped.increment = e.increment := rfl
@[simp] theorem Envelope.ramped_target (e : Envelope) : e.ramped.target = e.target := rfl
@[simp] theorem Envelope.ramped_attackTime (e : Envelope) : e.ramped.attackTime = e.attackTime := rfl
@[simp] theorem Envelope.ramped_decayTime (e : Envelope) : e.ramped.decayTime = e.decayTime := rfl
@[simp] theorem Envelope.ramped_releaseTime (e : Envelope) : e.ramped.releaseTime = e.releaseTime := rfl
@[simp] theorem Envelope.ramped_sustainLevel (e : Envelope) : e.ramped.sustainLevel = e.sustainLevel := rfl

@[simp] theorem Voice.trigger_osc (c : Config) (f : Word) (v : Voice) : (v.trigger c f).osc = v.osc.setFreq c f := rfl
@[simp] theorem Voice.trigger_flt (c : Config) (f : Word) (v : Voice) : (v.trigger c f).flt = v.flt := rfl
@[simp] theorem Voice.trigger_env (c : Config) (f : Word) (v : Voice) : (v.trigger c f).env = v.env.gateOn := rfl
@[simp] theorem Voice.trigger_frequency (c : Config) (f : Word) (v : Voice) : (v.trigger c f).frequency = f := rfl
@[simp] theorem Voice.trigger_amplitude (c : Config) (f : Word) (v : Voice) : (v.trigger c f).amplitude = v.amplitude := rfl
@[simp] theorem Voice.trigger_active (c : Config) (f : Word) (v : Voice) : (v.trigger c f).active = true := rfl
@[simp] theorem Voice.release_osc (v : Voice) : (v.release).osc = v.osc := rfl
@[simp] theorem Voice.release_flt (v : Voice) : (v.release).flt = v.flt := rfl
@[simp] theorem Voice.release_env (v : Voice) : (v.release).env = v.env.gateOff := rfl
@[simp] theorem Voice.release_frequency (v : Voice) : (v.release).frequency = v.frequency := rfl
@[simp] theorem Voice.release_amplitude (v : Voice) : (v.release).amplitude = v.amplitude := rfl
@[simp] theorem Voice.release_active (v : Voice) : (v.release).active = v.active := rfl
@[simp] theorem Voice.afterSample_osc (v : Voice) : (v.afterSample).osc = v.osc.step := rfl
@[simp] theorem Voice.afterSample_flt (v : Voice) : (v.afterSample).flt = (v.flt.process v.osc.advance.1).2 := rfl
@[simp] theorem Voice.afterSample_env (v : Voice) : (v.afterSample).env = v.env.tick.2 := rfl
@[simp] theorem Voice.afterSample_frequency (v : Voice) : (v.afterSample).frequency = v.frequency := rfl
@[simp] theorem Voice.afterSample_amplitude (v : Voice) : (v.afterSample).amplitude = v.amplitude := rfl
@[simp] theorem Voice.afterSample_active (v : Voice) : (v.afterSample).active = activeAfter v.env.tick.2 v.active := rfl
@[simp] theorem Voice.derive_osc (c : Config) (b : Snapshot) (v : Voice) : (v.derive c b).osc = v.osc.setWave b.waveform := rfl
@[simp] theorem Voice.derive_flt (c : Config) (b : Snapshot) (v : Voice) : (v.derive c b).flt = (v.flt.setCutoff c b.cutoff).setRes b.resonance := rfl
@[simp] theorem Voice.derive_env (c : Config) (b : Snapshot) (v : Voice) : (v.derive c b).env = v.env.setParams c b.attackMs b.decayMs b.sustain b.releaseMs := rfl
@[simp] theorem Voice.derive_frequency (c : Config) (b : Snapshot) (v : Voice) : (v.derive c b).frequency = v.frequency := rfl
@[simp] theorem Voice.derive_amplitude (c : Config) (b : Snapshot) (v : Voice) : (v.derive c b).amplitude = v.amplitude := rfl
@[simp] theorem Voice.derive_active (c : Config) (b : Snapshot) (v : Voice) : (v.derive c b).active = v.active := rfl
@[simp] theorem Voice.renderSample_fst (v : Voice) : v.renderSample.1 = v.sample := rfl
@[simp] theorem Voice.renderSample_snd (v : Voice) : v.renderSample.2 = v.afterSample := rfl

@[simp] theorem blockStart_cfg (s : State) : (blockStart s).cfg = s.cfg := rfl
@[simp] theorem blockStart_sched (s : State) : (blockStart s).sched = s.sched := rfl
@[simp] theorem blockStart_snap (s : State) : (blockStart s).snap = s.snap := rfl
@[simp] theorem blockStart_out (s : State) : (blockStart s).out = s.out := rfl
@[simp] theorem blockStart_txPos (s : State) : (blockStart s).txPos = s.txPos := rfl
@[simp] theorem blockStart_obs (s : State) : (blockStart s).obs = s.obs := rfl
@[simp] theorem blockStart_trace (s : State) : (blockStart s).trace = s.trace := rfl
@[simp] theorem blockStart_rend (s : State) : (blockStart s).rend
    = { s.rend with prevGate := gateOf s.snap.published.gate } := rfl
@[simp] theorem blockStart_voice (s : State) : (blockStart s).voice
    = (s.voice.derive s.cfg s.snap.published).gateEdge s.cfg s.snap.published.noteFreq
        (gateOf s.snap.published.gate) s.rend.prevGate := rfl

end Sys2Proof.Machine
end

