-- ==== Sys2Proof/Laws/Envelope.lean ====
section
/-!
SUPPORT. The envelope's shared operations once: everything a stage entry and a tick can do.
-/

namespace Sys2Proof.Machine

/-- A stage entry jumps or not, and then passes the stage through or begins its ramp
(42_envelope.md R195). -/
theorem Envelope.enter_cases (st : Stage) (tg : BitVec 31) (dur : BitVec 32) (done : Envelope → Envelope)
    (e : Envelope) :
    (dur = 0#32 ∧ e.enter st tg dur done = done { e with level := tg }) ∨
    (dur ≠ 0#32 ∧ e.level = tg ∧ e.enter st tg dur done = done e) ∨
    (dur ≠ 0#32 ∧ e.level ≠ tg ∧ e.enter st tg dur done = e.beginRamp st tg dur) := by
  unfold Envelope.enter Envelope.jump
  by_cases hd : dur = 0#32
  · simp [hd]
  · by_cases hl : e.level = tg
    · simp [hd, hl]
    · simp [hd, hl]

/-- A tick returns the level of a resting stage and ramps any other (42_envelope.md R199). -/
theorem Envelope.tick_cases (e : Envelope) :
    ((e.stage = .idle ∨ e.stage = .sustain) ∧ e.tick = ((e.level.toNat : Int), e)) ∨
    (e.stage ≠ .idle ∧ e.stage ≠ .sustain ∧ e.tick = e.rampTick) := by
  unfold Envelope.tick
  split <;> simp_all

/-- A ramp tick moves the level and completes the stage exactly when it reaches the target. -/
theorem Envelope.rampTick_cases (e : Envelope) :
    e.rampTick.1 = e.ramped.level.toNat ∧
    ((e.ramped.level = e.target ∧ e.rampTick.2 = e.ramped.complete e.stage) ∨
      (e.ramped.level ≠ e.target ∧ e.rampTick.2 = e.ramped)) := by
  refine ⟨rfl, ?_⟩
  by_cases h : e.ramped.level = e.target
  · exact .inl ⟨h, if_pos h⟩
  · exact .inr ⟨h, if_neg h⟩

/-- A gate-off releases in Attack, Decay and Sustain and is nothing elsewhere (42_envelope.md R198). -/
theorem Envelope.gateOff_cases (e : Envelope) :
    ((e.stage = .idle ∨ e.stage = .release) ∧ e.gateOff = e) ∨
    (e.stage ≠ .idle ∧ e.stage ≠ .release ∧ e.gateOff = e.enterRelease) := by
  unfold Envelope.gateOff
  split <;> simp_all

end Sys2Proof.Machine
end

