-- ==== Sys2Proof/Laws/Memory.lean ====
section
/-!
SUPPORT. The output loop: read after write, and every operation keeps the canonical form.
-/

namespace Sys2Proof.Machine

@[simp] theorem Memory.read_nil (x : Nat) : Memory.read [] x = unlistedByte := rfl

theorem Memory.wfFrom_mono {m : Memory} {lo lo' : Nat} (h : m.wfFrom lo = true) (hle : lo' ≤ lo) :
    m.wfFrom lo' = true := by
  cases m with
  | nil => rfl
  | cons c rest =>
    obtain ⟨a, b⟩ := c
    simp only [Memory.wfFrom, Bool.and_eq_true, decide_eq_true_eq] at h ⊢
    exact ⟨⟨le_trans hle h.1.1, h.1.2⟩, h.2⟩

/-- Below the first address the form starts at, nothing is listed. -/
theorem Memory.read_below {m : Memory} {lo x : Nat} (h : m.wfFrom lo = true) (hx : x < lo) :
    m.read x = unlistedByte := by
  induction m generalizing lo with
  | nil => rfl
  | cons c rest ih =>
    obtain ⟨a, b⟩ := c
    simp only [Memory.wfFrom, Bool.and_eq_true, decide_eq_true_eq] at h
    rw [Memory.read, if_neg (by omega)]
    exact ih h.2 (by omega)

/-- Everything `push` can do to a read. -/
theorem Memory.read_push {m : Memory} {x y : Nat} {v : Byte} (h : m.wfFrom (x + 1) = true) :
    (Memory.push x v m).read y = if y = x then v else m.read y := by
  unfold Memory.push
  split
  next hv =>
    split
    next hy => rw [hy, Memory.read_below h (by omega), hv]
    next => rfl
  next =>
    rw [Memory.read]
    by_cases hy : y = x
    · rw [if_pos hy.symm, if_pos hy]
    · rw [if_neg (Ne.symm hy), if_neg hy]

theorem Memory.wfFrom_push {m : Memory} {x lo : Nat} {v : Byte} (h : m.wfFrom (x + 1) = true)
    (hlo : lo ≤ x) : (Memory.push x v m).wfFrom lo = true := by
  unfold Memory.push
  split
  · exact Memory.wfFrom_mono h (by omega)
  next hv =>
    simp only [Memory.wfFrom, Bool.and_eq_true, decide_eq_true_eq]
    exact ⟨⟨hlo, hv⟩, h⟩

/-- A write keeps the canonical form. -/
theorem Memory.wfFrom_write {m : Memory} {x lo : Nat} {v : Byte} (h : m.wfFrom lo = true)
    (hlo : lo ≤ x) : (m.write x v).wfFrom lo = true := by
  induction m generalizing lo with
  | nil => exact Memory.wfFrom_push rfl hlo
  | cons c rest ih =>
    obtain ⟨a, b⟩ := c
    have h' := h
    simp only [Memory.wfFrom, Bool.and_eq_true, decide_eq_true_eq] at h'
    rw [Memory.write]
    split
    next hx =>
      refine Memory.wfFrom_push ?_ hlo
      simp only [Memory.wfFrom, Bool.and_eq_true, decide_eq_true_eq]
      exact ⟨⟨by omega, h'.1.2⟩, h'.2⟩
    next hx =>
      split
      next hxa => exact Memory.wfFrom_push (hxa ▸ h'.2) hlo
      next hxa =>
        simp only [Memory.wfFrom, Bool.and_eq_true, decide_eq_true_eq]
        exact ⟨h'.1, ih h'.2 (by omega)⟩

/-- Everything a write can do: one byte changes, every other reads as before. -/
theorem Memory.read_write {m : Memory} {x y lo : Nat} {v : Byte} (h : m.wfFrom lo = true)
    (hlo : lo ≤ x) : (m.write x v).read y = if y = x then v else m.read y := by
  induction m generalizing lo with
  | nil => exact Memory.read_push rfl
  | cons c rest ih =>
    obtain ⟨a, b⟩ := c
    have h' := h
    simp only [Memory.wfFrom, Bool.and_eq_true, decide_eq_true_eq] at h'
    rw [Memory.write]
    split
    next hx =>
      refine Memory.read_push ?_
      simp only [Memory.wfFrom, Bool.and_eq_true, decide_eq_true_eq]
      exact ⟨⟨by omega, h'.1.2⟩, h'.2⟩
    next hx =>
      split
      next hxa =>
        subst hxa
        rw [Memory.read_push h'.2, Memory.read]
        by_cases hy : y = x
        · rw [if_pos hy, if_pos hy]
        · rw [if_neg hy, if_neg hy, if_neg (Ne.symm hy)]
      next hxa =>
        rw [Memory.read, Memory.read, ih h'.2 (by omega)]
        by_cases hy : y = x
        · subst hy
          rw [if_neg (Ne.symm hxa), if_pos rfl, if_pos rfl]
        · rw [if_neg hy, if_neg hy]

theorem Memory.wf_nil : Memory.wf [] = true := rfl

theorem Memory.wf_write {m : Memory} {x : Nat} {v : Byte} (h : m.wf = true) : (m.write x v).wf = true :=
  Memory.wfFrom_write h (Nat.zero_le x)

theorem Memory.wf_writeHalf {m : Memory} {w : Nat} {v : Half} (h : m.wf = true) :
    (m.writeHalf w v).wf = true := Memory.wf_write (Memory.wf_write h)

/-- Every byte after a word write (20_memory.md R85). -/
theorem Memory.read_writeHalf {m : Memory} {w y : Nat} {v : Half} (h : m.wf = true) :
    (m.writeHalf w v).read y =
      if y = 2 * w + 1 then v.extractLsb' 8 8 else if y = 2 * w then v.extractLsb' 0 8 else m.read y := by
  rw [Memory.writeHalf, Memory.read_write (Memory.wf_write h) (Nat.zero_le _),
    Memory.read_write (lo := 0) h (Nat.zero_le _)]

theorem half_of_bytes (v : Half) : v.extractLsb' 8 8 ++ v.extractLsb' 0 8 = v := by
  ext i hi
  simp only [BitVec.getElem_append, BitVec.getElem_extractLsb']
  split
  · simp [BitVec.getLsbD_eq_getElem hi]
  · rw [show 8 + (i - 8) = i by omega, BitVec.getLsbD_eq_getElem hi]

/-- A word reads as it was written, every other word as before. -/
theorem Memory.readHalf_writeHalf {m : Memory} {w u : Nat} {v : Half} (h : m.wf = true) :
    (m.writeHalf w v).readHalf u = if u = w then v else m.readHalf u := by
  rw [Memory.readHalf, Memory.read_writeHalf h, Memory.read_writeHalf h]
  split
  next hu =>
    have : u = w := by omega
    subst this
    rw [if_neg (by omega), if_pos rfl, if_pos rfl]
    exact half_of_bytes v
  next hu =>
    rw [if_neg (by omega), if_neg (by omega), if_neg (by omega), if_neg (by omega)]
    rfl

/-- The highest address listed lies below `hi`. -/
def Memory.below (hi : Nat) (m : Memory) : Bool := m.all fun c => decide (c.1 < hi)

theorem Memory.below_push {m : Memory} {x hi : Nat} {v : Byte} (h : m.below hi = true) (hx : x < hi) :
    (Memory.push x v m).below hi = true := by
  unfold Memory.push
  split
  · exact h
  · simp only [Memory.below, List.all_cons, decide_eq_true hx, Bool.true_and]
    exact h

/-- A write below `hi` keeps everything below `hi`. -/
theorem Memory.below_write {m : Memory} {x hi : Nat} {v : Byte} (h : m.below hi = true) (hx : x < hi) :
    (m.write x v).below hi = true := by
  induction m with
  | nil => exact Memory.below_push rfl hx
  | cons c rest ih =>
    obtain ⟨a, b⟩ := c
    have h' := h
    simp only [Memory.below, List.all_cons, Bool.and_eq_true] at h'
    rw [Memory.write]
    split
    · exact Memory.below_push h hx
    · split
      · exact Memory.below_push h'.2 hx
      · simp only [Memory.below, List.all_cons, Bool.and_eq_true]
        exact ⟨h'.1, ih h'.2⟩

end Sys2Proof.Machine
end

