-- ==== Sys2Proof/Laws/Ops.lean ====
section
/-!
SUPPORT. Each shared operation once: everything it can do.
-/

namespace Sys2Proof.Machine

/-- `BufWrite` answers exactly inside its buffer, and then changes one word. -/
theorem bufWrite_eq_some {c : Config} {b : Buffer} {w : Nat} {v : Int} {m m' : Memory} :
    bufWrite c b w v m = some m' ↔
      w < 2 * c.bufFrames ∧ m' = m.writeHalf (bufBase c b + w) (pcmWord v) := by
  unfold bufWrite
  split
  · simp only [Option.some.injEq]; exact ⟨fun h => ⟨‹_›, h.symm⟩, fun h => h.2.symm⟩
  · simp only [reduceCtorEq, false_iff]; exact fun h => ‹¬_› h.1

/-- The two writes of a frame answer exactly inside the block, and then change its two words. -/
theorem frameWrite_eq_some {c : Config} {b : Buffer} {k : Nat} {v : Int} {m m' : Memory} :
    frameWrite c b k v m = some m' ↔
      k < c.bufFrames ∧ m' = (m.writeHalf (bufBase c b + 2 * k) (pcmWord v)).writeHalf
        (bufBase c b + (2 * k + 1)) (pcmWord v) := by
  rw [frameWrite, Option.bind_eq_some_iff]
  simp only [bufWrite_eq_some]
  constructor
  · rintro ⟨m1, ⟨h1, rfl⟩, h2, rfl⟩
    exact ⟨by omega, rfl⟩
  · rintro ⟨h, rfl⟩
    exact ⟨_, ⟨by omega, rfl⟩, by omega, rfl⟩

theorem frameWrite_eq_none {c : Config} {b : Buffer} {k : Nat} {v : Int} {m : Memory} :
    frameWrite c b k v m = none ↔ c.bufFrames ≤ k := by
  constructor
  · intro h
    by_contra hk
    have := (frameWrite_eq_some (c := c) (b := b) (k := k) (v := v) (m := m)).2 ⟨by omega, rfl⟩
    rw [h] at this
    cases this
  · intro h
    cases hw : frameWrite c b k v m with
    | none => rfl
    | some m' => exact absurd (frameWrite_eq_some.1 hw).1 (by omega)

/-- A loop frame is read exactly inside the loop. -/
theorem loopFrame_eq_some {c : Config} {f : Nat} {m : Memory} {p : Half × Half} :
    loopFrame c f m = some p ↔
      f < 2 * c.bufFrames ∧ p = (m.readHalf (2 * f), m.readHalf (2 * f + 1)) := by
  unfold loopFrame
  split
  · simp only [Option.some.injEq]; exact ⟨fun h => ⟨‹_›, h.symm⟩, fun h => h.2.symm⟩
  · simp only [reduceCtorEq, false_iff]; exact fun h => ‹¬_› h.1

theorem loopFrame_eq_none {c : Config} {f : Nat} {m : Memory} :
    loopFrame c f m = none ↔ 2 * c.bufFrames ≤ f := by
  unfold loopFrame
  split <;> simp <;> omega

/-- The end of a frame is the end of the fill, or the next index. -/
theorem endFrame_cases (s : State) :
    (s.rend.frameIdx.toNat + 1 = s.cfg.bufFrames ∧
      endFrame s = { s with sched := { s.sched with busy := false }, rend := { s.rend with frameIdx := 0#15 } }) ∨
    (s.rend.frameIdx.toNat + 1 ≠ s.cfg.bufFrames ∧
      endFrame s = { s with rend := { s.rend with frameIdx := s.rend.frameIdx + 1#15 } }) := by
  unfold endFrame
  split
  · exact .inl ⟨‹_›, rfl⟩
  · exact .inr ⟨‹_›, rfl⟩

/-- Everything `RENDER.FRAME` can do. -/
theorem execRenderFrame_cases (s : State) :
    (s.sched.busy = false ∧ execRenderFrame s = .refused .noFillRunning) ∨
    (s.sched.busy = true ∧ s.cfg.bufFrames ≤ s.rend.frameIdx.toNat ∧
      execRenderFrame s = .fault .bufferWordOutOfRange) ∨
    (s.sched.busy = true ∧ s.rend.frameIdx.toNat < s.cfg.bufFrames ∧
      execRenderFrame s = .next (endFrame ((s.setVoice s.voice.afterSample).setOut
        ((s.out.writeHalf (bufBase s.cfg s.sched.fillTarget + 2 * s.rend.frameIdx.toNat)
          (pcmWord (pcm s.voice.sample))).writeHalf
          (bufBase s.cfg s.sched.fillTarget + (2 * s.rend.frameIdx.toNat + 1))
          (pcmWord (pcm s.voice.sample)))))) := by
  cases hb : s.sched.busy with
  | false => exact .inl ⟨rfl, by simp [execRenderFrame, hb]⟩
  | true =>
    cases hw : frameWrite s.cfg s.sched.fillTarget s.rend.frameIdx.toNat (pcm s.voice.renderSample.1) s.out with
    | none =>
      exact .inr (.inl ⟨rfl, frameWrite_eq_none.1 hw, by simp only [execRenderFrame, hb, renderFrame, hw, if_true]⟩)
    | some m =>
      have h := frameWrite_eq_some.1 hw
      refine .inr (.inr ⟨rfl, h.1, ?_⟩)
      simp only [execRenderFrame, hb, renderFrame, hw, if_true]
      rw [h.2]
      rfl

/-- Everything an event can do (45_output_scheduler.md R266). -/
theorem takeEvent_cases (b : Buffer) (s : State) :
    (s.sched.busy = true ∧ takeEvent b s = s.setSched (recordUnderrun { s.sched with own := b })) ∨
    (s.sched.busy = false ∧ takeEvent b s =
      blockStart ((s.setSched { s.sched with own := b, busy := true, fillTarget := b }).setRend
        { s.rend with frameIdx := 0#15 })) := by
  unfold takeEvent
  cases s.sched.busy with
  | true => exact .inl ⟨rfl, rfl⟩
  | false => exact .inr ⟨rfl, rfl⟩

/-- Everything `TX.FRAME` can do. -/
theorem execTxFrame_cases (s : State) :
    (2 * s.cfg.bufFrames ≤ s.txPos ∧ execTxFrame s = .fault .loopFrameOutOfRange) ∨
    (s.txPos < 2 * s.cfg.bufFrames ∧
      execTxFrame s = .next (raiseAt s.cfg s.txPos
        ((s.emits (s.out.readHalf (2 * s.txPos)) (s.out.readHalf (2 * s.txPos + 1))).setTxPos
          (txNext s.cfg s.txPos)))) := by
  unfold execTxFrame
  cases h : loopFrame s.cfg s.txPos s.out with
  | none => exact .inl ⟨loopFrame_eq_none.1 h, rfl⟩
  | some p =>
    obtain ⟨h1, rfl⟩ := loopFrame_eq_some.1 h
    exact .inr ⟨h1, rfl⟩

/-- A raised event stands at the head of the trace; nothing else changes. -/
theorem raiseAt_cases (c : Config) (p : Nat) (s : State) :
    (p + 1 = c.bufFrames ∧ raiseAt c p s = { s with trace := .event 1 :: s.trace }) ∨
    (p + 1 ≠ c.bufFrames ∧ p + 1 = 2 * c.bufFrames ∧ raiseAt c p s = { s with trace := .event 2 :: s.trace }) ∨
    (p + 1 ≠ c.bufFrames ∧ p + 1 ≠ 2 * c.bufFrames ∧ raiseAt c p s = s) := by
  unfold raiseAt
  split
  · exact .inl ⟨‹_›, rfl⟩
  · split
    · exact .inr (.inl ⟨‹_›, ‹_›, rfl⟩)
    · exact .inr (.inr ⟨‹_›, ‹_›, rfl⟩)

/-- The gate edge is a trigger, a release or nothing (44_render_engine.md R243). -/
theorem Voice.gateEdge_cases (c : Config) (f : Word) (now before : Bool) (v : Voice) :
    (now = true ∧ before = false ∧ v.gateEdge c f now before = v.trigger c f) ∨
    (now = false ∧ before = true ∧ v.gateEdge c f now before = v.release) ∨
    (now = before ∧ v.gateEdge c f now before = v) := by
  cases now <;> cases before <;> simp [Voice.gateEdge]

@[simp] theorem Snapshot.get_set (f : Field) (v : Word) (b : Snapshot) : (b.set f v).get f = v := by
  cases f <;> rfl

theorem Snapshot.get_set_ne {f g : Field} (h : g ≠ f) (v : Word) (b : Snapshot) :
    (b.set f v).get g = b.get g := by
  cases f <;> cases g <;> first | rfl | exact absurd rfl h

@[simp] theorem Banks.staging_setStaging (v : Snapshot) (b : Banks) : (b.setStaging v).staging = v := by
  unfold Banks.setStaging Banks.staging
  split <;> simp_all

@[simp] theorem Banks.published_setStaging (v : Snapshot) (b : Banks) :
    (b.setStaging v).published = b.published := by
  unfold Banks.setStaging Banks.published
  split <;> simp_all

@[simp] theorem Banks.pubIdx_setStaging (v : Snapshot) (b : Banks) : (b.setStaging v).pubIdx = b.pubIdx := by
  unfold Banks.setStaging
  split <;> rfl

@[simp] theorem Banks.published_publish (b : Banks) : b.publish.published = b.staging := by
  cases h : b.pubIdx <;> simp [Banks.publish, Banks.published, Banks.staging, h]

@[simp] theorem Banks.staging_publish (b : Banks) : b.publish.staging = b.published := by
  cases h : b.pubIdx <;> simp [Banks.publish, Banks.published, Banks.staging, h]

end Sys2Proof.Machine
end

