-- ==== Sys2Proof/Laws/Oscillator.lean ====
section
/-!
SUPPORT. The conflict between 40_oscillator.md R157 and R164 on the Sine (entry 19): whatever stands
between the table entries, a waveform that takes R157's values at the first two cannot change by at
most 1 per phase unit.
-/

namespace Sys2Proof.Machine

/-- A function that changes by at most 1 per unit changes by at most `n` over `n` units. -/
theorem slow_bound {g : Nat → Int} (h : ∀ p, g (p + 1) - g p ≤ 1) (n : Nat) : g n - g 0 ≤ n := by
  induction n with
  | zero => simp
  | succ n ih => have := h n; push_cast; omega

/-- R157 corner case (a) at table entries 0 and 1, against R164's bound. -/
theorem no_slow_sine (g : Nat → Int) (h0 : g 0 = sineWave 0#32) (h1 : g 4194304 = sineWave 0x400000#32) :
    ¬ ∀ p, g (p + 1) - g p ≤ 1 := by
  intro h
  have hb := slow_bound h 4194304
  have e0 : sineWave 0#32 = 0 := by decide
  have e1 : sineWave 0x400000#32 = 6586368 := by decide
  rw [h0, h1, e0, e1] at hb
  norm_num at hb

end Sys2Proof.Machine
end

