-- ==== Sys2Proof/Laws/PerInstr.lean ====
section
/-!
SUPPORT. Statements for all operations, made per operation: a raw entry that encodes an operation
fits its port (30_encoding.md R111, R113).
-/

namespace Sys2Proof.Laws.EncodedWordFits

/-- A raw entry is a word of its port: 41 bits of a transaction, 2 bits of an event. -/
def fits : Signal → Prop
  | .host x => x < 2 ^ 41
  | .event e => e < 4
  | .frame => True
  | .reset => True
  | .transmit => True

/-- What the encoder answers fits its port. -/
def Statement (i : Instr) : Prop := ∀ sig, encode i = some sig → fits sig

theorem of_some {i : Instr} {sig : Signal} (h : encode i = some sig) (hf : fits sig) : Statement i := by
  intro sig' h'
  rw [h, Option.some.injEq] at h'
  exact h' ▸ hf

theorem of_none {i : Instr} (h : encode i = none) : Statement i := by
  intro sig h'
  rw [h] at h'
  cases h'

theorem readStatus (data : Word) : Statement (.readStatus data) := of_some rfl (hostWord_lt _ _ _)
theorem readUnderrunCount (data : Word) : Statement (.readUnderrunCount data) := of_some rfl (hostWord_lt _ _ _)
theorem readAmplitude (data : Word) : Statement (.readAmplitude data) := of_some rfl (hostWord_lt _ _ _)
theorem writeAmplitude (data : Word) : Statement (.writeAmplitude data) := of_some rfl (hostWord_lt _ _ _)
theorem writeNoteOn (data : Word) : Statement (.writeNoteOn data) := of_some rfl (hostWord_lt _ _ _)
theorem writeNoteOff (data : Word) : Statement (.writeNoteOff data) := of_some rfl (hostWord_lt _ _ _)
theorem writePublish (data : Word) : Statement (.writePublish data) := of_some rfl (hostWord_lt _ _ _)
theorem writeWaveform (data : Word) : Statement (.writeWaveform data) := of_some rfl (hostWord_lt _ _ _)
theorem writeCutoff (data : Word) : Statement (.writeCutoff data) := of_some rfl (hostWord_lt _ _ _)
theorem writeResonance (data : Word) : Statement (.writeResonance data) := of_some rfl (hostWord_lt _ _ _)
theorem writeAttackMs (data : Word) : Statement (.writeAttackMs data) := of_some rfl (hostWord_lt _ _ _)
theorem writeDecayMs (data : Word) : Statement (.writeDecayMs data) := of_some rfl (hostWord_lt _ _ _)
theorem writeSustain (data : Word) : Statement (.writeSustain data) := of_some rfl (hostWord_lt _ _ _)
theorem writeReleaseMs (data : Word) : Statement (.writeReleaseMs data) := of_some rfl (hostWord_lt _ _ _)
theorem writeNoteFreq (data : Word) : Statement (.writeNoteFreq data) := of_some rfl (hostWord_lt _ _ _)
theorem writeGate (data : Word) : Statement (.writeGate data) := of_some rfl (hostWord_lt _ _ _)
theorem readWaveform (data : Word) : Statement (.readWaveform data) := of_some rfl (hostWord_lt _ _ _)
theorem readCutoff (data : Word) : Statement (.readCutoff data) := of_some rfl (hostWord_lt _ _ _)
theorem readResonance (data : Word) : Statement (.readResonance data) := of_some rfl (hostWord_lt _ _ _)
theorem readAttackMs (data : Word) : Statement (.readAttackMs data) := of_some rfl (hostWord_lt _ _ _)
theorem readDecayMs (data : Word) : Statement (.readDecayMs data) := of_some rfl (hostWord_lt _ _ _)
theorem readSustain (data : Word) : Statement (.readSustain data) := of_some rfl (hostWord_lt _ _ _)
theorem readReleaseMs (data : Word) : Statement (.readReleaseMs data) := of_some rfl (hostWord_lt _ _ _)
theorem readNoteFreq (data : Word) : Statement (.readNoteFreq data) := of_some rfl (hostWord_lt _ _ _)
theorem readGate (data : Word) : Statement (.readGate data) := of_some rfl (hostWord_lt _ _ _)
theorem readPubWaveform (data : Word) : Statement (.readPubWaveform data) := of_some rfl (hostWord_lt _ _ _)
theorem readPubCutoff (data : Word) : Statement (.readPubCutoff data) := of_some rfl (hostWord_lt _ _ _)
theorem readPubResonance (data : Word) : Statement (.readPubResonance data) := of_some rfl (hostWord_lt _ _ _)
theorem readPubAttackMs (data : Word) : Statement (.readPubAttackMs data) := of_some rfl (hostWord_lt _ _ _)
theorem readPubDecayMs (data : Word) : Statement (.readPubDecayMs data) := of_some rfl (hostWord_lt _ _ _)
theorem readPubSustain (data : Word) : Statement (.readPubSustain data) := of_some rfl (hostWord_lt _ _ _)
theorem readPubReleaseMs (data : Word) : Statement (.readPubReleaseMs data) := of_some rfl (hostWord_lt _ _ _)
theorem readPubNoteFreq (data : Word) : Statement (.readPubNoteFreq data) := of_some rfl (hostWord_lt _ _ _)
theorem readPubGate (data : Word) : Statement (.readPubGate data) := of_some rfl (hostWord_lt _ _ _)
theorem reservedAccess (we : Bool) (addr : Offset) (data : Word) : Statement (.reservedAccess we addr data) := of_some rfl (hostWord_lt _ _ _)
theorem schedHt : Statement (.schedHt) := of_some rfl (by show _ < 4; decide)
theorem schedTc : Statement (.schedTc) := of_some rfl (by show _ < 4; decide)
theorem renderFrame : Statement (.renderFrame) := of_some rfl trivial
theorem renderBlockstart : Statement (.renderBlockstart) := of_none rfl
theorem oscSetfreq (f : Word) : Statement (.oscSetfreq f) := of_none rfl
theorem oscSetwave (w : Word) : Statement (.oscSetwave w) := of_none rfl
theorem oscAdvance : Statement (.oscAdvance) := of_none rfl
theorem fltSetcutoff (c : Word) : Statement (.fltSetcutoff c) := of_none rfl
theorem fltSetres (r : Word) : Statement (.fltSetres r) := of_none rfl
theorem fltProcess (x : Int) : Statement (.fltProcess x) := of_none rfl
theorem envSetparams (a : Word) (d : Word) (sl : Word) (rl : Word) : Statement (.envSetparams a d sl rl) := of_none rfl
theorem envGateon : Statement (.envGateon) := of_none rfl
theorem envGateoff : Statement (.envGateoff) := of_none rfl
theorem envTick : Statement (.envTick) := of_none rfl
theorem voiceTrigger (f : Word) : Statement (.voiceTrigger f) := of_none rfl
theorem voiceRelease : Statement (.voiceRelease) := of_none rfl
theorem voiceRendersample : Statement (.voiceRendersample) := of_none rfl
theorem reset : Statement (.reset) := of_some rfl trivial
theorem txFrame : Statement (.txFrame) := of_some rfl trivial

end Sys2Proof.Laws.EncodedWordFits
end

