-- ==== Sys2Proof/Laws/Step.lean ====
section
/-!
SUPPORT. What a step can be: an operation run by `exec`, nothing, or a refused raw entry.
-/

namespace Sys2Proof.Machine

/-- Everything a step can do. -/
theorem step_cases (s : State) :
    (∃ i t, step s = exec i t ∧ ∃ tr, t = s.setTrace tr) ∨
    (∃ tr, step s = .next (s.setTrace tr)) ∨
    (∃ why, step s = .refused (refusalOf why)) := by
  unfold step fetch
  cases htr : s.trace with
  | nil =>
    have hs : s = s.setTrace [] := by
      cases s
      simp only at htr
      subst htr
      rfl
    simp only [fetchOwn]
    cases s.sched.busy with
    | true => exact .inl ⟨.renderFrame, s, rfl, [], hs⟩
    | false => exact .inr (.inl ⟨[], congrArg _ hs⟩)
  | cons sig rest =>
    simp only [fetchSignal]
    cases decode sig with
    | instr i after => exact .inl ⟨i, _, rfl, _, rfl⟩
    | noStep => exact .inr (.inl ⟨rest, rfl⟩)
    | rejected why => exact .inr (.inr ⟨why, rfl⟩)

end Sys2Proof.Machine
end

