-- ==== Sys2Proof/Machine/Script.lean ====
section
/-!
DEFINITION. The script notation of 30_encoding.md R140 and R141, expanded to trace entries. It is
notation outside the block; no step reads it.
-/

namespace Sys2Proof.Machine

/-- One line of a script (30_encoding.md R140, R141). A read line's expected value belongs to the
test that holds the script. -/
inductive ScriptLine where
  /-- `W <addr>, <data>` -/
  | w (addr : Offset) (data : Word)
  /-- `R <addr>` -/
  | r (addr : Offset)
  | ht
  | tc
  /-- `F * n`; `F` is `F * 1`. -/
  | f (n : Nat)
  | reset
  /-- `SNAP w, c, r, a, d, s, rl, f, g` -/
  | snap (b : Field → Word)
  | fill
  /-- `NOTEON f` -/
  | noteOn (f : Word)
  | noteOff

/-- A host write, `2^40 + addr * 2^32 + data` (30_encoding.md R140). -/
def writeSignal (addr : Offset) (data : Word) : Signal := .host (hostWord true addr data)

/-- The staging offset of a field, `0x20 + 4 * n` (30_encoding.md R118). -/
def stagingOffset : Field → Offset
  | .waveform => 0x20#8
  | .cutoff => 0x24#8
  | .resonance => 0x28#8
  | .attackMs => 0x2C#8
  | .decayMs => 0x30#8
  | .sustain => 0x34#8
  | .releaseMs => 0x38#8
  | .noteFreq => 0x3C#8
  | .gate => 0x40#8

/-- The nine fields in the order of their numbers (10_state.md R56). -/
def allFields : List Field :=
  [.waveform, .cutoff, .resonance, .attackMs, .decayMs, .sustain, .releaseMs, .noteFreq, .gate]

/-- The trace entries of one line (30_encoding.md R140, R141). -/
def expandLine (c : Config) : ScriptLine → List Signal
  | .w addr data => [writeSignal addr data]
  | .r addr => [.host (hostWord false addr 0)]
  | .ht => [.event 1]
  | .tc => [.event 2]
  | .f n => List.replicate n .frame
  | .reset => [.reset]
  | .snap b => allFields.map (fun n => writeSignal (stagingOffset n) (b n)) ++ [writeSignal 0x14#8 0]
  | .fill => List.replicate c.bufFrames .frame
  | .noteOn f => [writeSignal 0x0C#8 f]
  | .noteOff => [writeSignal 0x10#8 0]

/-- The trace of a whole script. -/
def expandScript (c : Config) (lines : List ScriptLine) : List Signal := (lines.map (expandLine c)).flatten

end Sys2Proof.Machine
end

