-- ==== Sys2Proof/Tests/Slice0.lean ====
section
/-!
SUPPORT. Tests: ill-formed operands, words written out from 30_encoding.md R111 and R118, the spec's
own vectors (95_test_vectors.md) one step at a time, and for every statement with hypotheses a
concrete state and operands that meet them.
-/

namespace Sys2Proof.Tests

open Sys2Proof Sys2Proof.Machine

/-! ### Well-formedness (30_encoding.md R137; 41_filter.md R175) -/

theorem test_write_of_an_existing_register_is_no_reserved_access :
    (Instr.reservedAccess true 0x08#8 0#32).wf = false := by decide

theorem test_read_of_an_existing_register_is_no_reserved_access :
    (Instr.reservedAccess false 0x60#8 0#32).wf = false := by decide

theorem test_write_only_register_read_is_reserved :
    (Instr.reservedAccess false 0x14#8 0#32).wf = true := by decide

theorem test_input_above_full_scale_is_ill_formed : (Instr.fltProcess 1073741825).wf = false := by decide

theorem test_input_below_full_scale_is_ill_formed : (Instr.fltProcess (-1073741825)).wf = false := by decide

/-! ### Decoding: every word written out from its `we`, `addr` and `data` (30_encoding.md R111, R118) -/

theorem test_decode_read_words_a :
    decode (.host 0x000DEADBEEF) = .instr (.readStatus 0xDEADBEEF#32) [] ∧
    decode (.host 0x004DEADBEEF) = .instr (.readUnderrunCount 0xDEADBEEF#32) [] ∧
    decode (.host 0x008DEADBEEF) = .instr (.readAmplitude 0xDEADBEEF#32) [] ∧
    decode (.host 0x020DEADBEEF) = .instr (.readWaveform 0xDEADBEEF#32) [] ∧
    decode (.host 0x024DEADBEEF) = .instr (.readCutoff 0xDEADBEEF#32) [] ∧
    decode (.host 0x028DEADBEEF) = .instr (.readResonance 0xDEADBEEF#32) [] ∧
    decode (.host 0x02CDEADBEEF) = .instr (.readAttackMs 0xDEADBEEF#32) [] ∧
    decode (.host 0x030DEADBEEF) = .instr (.readDecayMs 0xDEADBEEF#32) [] ∧
    decode (.host 0x034DEADBEEF) = .instr (.readSustain 0xDEADBEEF#32) [] ∧
    decode (.host 0x038DEADBEEF) = .instr (.readReleaseMs 0xDEADBEEF#32) [] ∧
    decode (.host 0x03CDEADBEEF) = .instr (.readNoteFreq 0xDEADBEEF#32) [] := by decide

theorem test_decode_read_words_b :
    decode (.host 0x040DEADBEEF) = .instr (.readGate 0xDEADBEEF#32) [] ∧
    decode (.host 0x060DEADBEEF) = .instr (.readPubWaveform 0xDEADBEEF#32) [] ∧
    decode (.host 0x064DEADBEEF) = .instr (.readPubCutoff 0xDEADBEEF#32) [] ∧
    decode (.host 0x068DEADBEEF) = .instr (.readPubResonance 0xDEADBEEF#32) [] ∧
    decode (.host 0x06CDEADBEEF) = .instr (.readPubAttackMs 0xDEADBEEF#32) [] ∧
    decode (.host 0x070DEADBEEF) = .instr (.readPubDecayMs 0xDEADBEEF#32) [] ∧
    decode (.host 0x074DEADBEEF) = .instr (.readPubSustain 0xDEADBEEF#32) [] ∧
    decode (.host 0x078DEADBEEF) = .instr (.readPubReleaseMs 0xDEADBEEF#32) [] ∧
    decode (.host 0x07CDEADBEEF) = .instr (.readPubNoteFreq 0xDEADBEEF#32) [] ∧
    decode (.host 0x080DEADBEEF) = .instr (.readPubGate 0xDEADBEEF#32) [] := by decide

theorem test_decode_write_words_a :
    decode (.host 0x10812345678) = .instr (.writeAmplitude 0x12345678#32) [] ∧
    decode (.host 0x10C12345678) = .instr (.writeNoteOn 0x12345678#32) [] ∧
    decode (.host 0x11012345678) = .instr (.writeNoteOff 0x12345678#32) [] ∧
    decode (.host 0x11412345678) = .instr (.writePublish 0x12345678#32) [] ∧
    decode (.host 0x12012345678) = .instr (.writeWaveform 0x12345678#32) [] ∧
    decode (.host 0x12412345678) = .instr (.writeCutoff 0x12345678#32) [] ∧
    decode (.host 0x12812345678) = .instr (.writeResonance 0x12345678#32) [] ∧
    decode (.host 0x12C12345678) = .instr (.writeAttackMs 0x12345678#32) [] ∧
    decode (.host 0x13012345678) = .instr (.writeDecayMs 0x12345678#32) [] ∧
    decode (.host 0x13412345678) = .instr (.writeSustain 0x12345678#32) [] ∧
    decode (.host 0x13812345678) = .instr (.writeReleaseMs 0x12345678#32) [] := by decide

theorem test_decode_write_words_b :
    decode (.host 0x13C12345678) = .instr (.writeNoteFreq 0x12345678#32) [] ∧
    decode (.host 0x14012345678) = .instr (.writeGate 0x12345678#32) [] := by decide

theorem test_decode_reserved_words :
    decode (.host 0x00C00000000) = .instr (.reservedAccess false 0x0C#8 0#32) [] ∧
    decode (.host 0x11C00000007) = .instr (.reservedAccess true 0x1C#8 7#32) [] ∧
    decode (.host 0x16000000005) = .instr (.reservedAccess true 0x60#8 5#32) [] ∧
    decode (.host 0x04400000000) = .instr (.reservedAccess false 0x44#8 0#32) [] ∧
    decode (.host 0x1FFFFFFFFFF) = .instr (.reservedAccess true 0xFF#8 0xFFFFFFFF#32) [] := by decide

theorem test_decode_wide_words :
    decode (.host 0x20000000000) = .rejected .wideTransaction ∧
    decode (.event 4) = .rejected .wideEvent := by decide

theorem test_decode_entries_without_a_word :
    decode .frame = .instr .renderFrame [] ∧ decode .reset = .instr .reset [] ∧
    decode .transmit = .instr .txFrame [] := by decide

/-- `EV` rows have at most 8 bits, `HX` rows 41 (30_encoding.md R111, R113). -/
theorem test_table_words :
    decodeTableWord 8 1 = some .schedHt ∧ decodeTableWord 8 2 = some .schedTc ∧
    decodeTableWord 48 0x10C0BB80000 = some (.writeNoteOn 0x0BB80000#32) := by decide


/-! ### The spec's vectors (95_test_vectors.md section 2) -/

/-- The reset state at 48000 frames per second with blocks of two frames. -/
def small : State := State.resetWith ⟨48000, 2⟩

/-- What `f` reads of the next state, none at a stop. -/
def after {α : Type} (f : State → α) : Host.Outcome State Fault Refusal → Option α
  | .next s => some (f s)
  | .fault _ => none
  | .refused _ => none

def lastRead (s : State) : Option Word := s.obs.reads.getLast?

/-- `small` with the envelope registers of the vectors. -/
def withEnv (stage : Stage) (level target : BitVec 31) (inc : Int) (a d r : BitVec 32) (sus : BitVec 31) :
    State :=
  small.setEnv { stage := stage, level := level, increment := BitVec.ofInt 32 inc, target := target,
                 attackTime := a, decayTime := d, releaseTime := r, sustainLevel := sus }

/-- Stage, level, increment, target: the columns of V-ENV-2. -/
def envColumns (s : State) : Stage × Nat × Int × Nat :=
  (s.voice.env.stage, s.voice.env.level.toNat, s.voice.env.increment.toInt, s.voice.env.target.toNat)

/-- `small` with the filter registers of the vectors. -/
def withFlt (coef : BitVec 31) (res : BitVec 30) (h : Int) : State :=
  small.setFlt { cutoffCoefficient := coef, resonance := res, previousOutput := BitVec.ofInt 32 h }

/-- `small` with the oscillator registers of the vectors. -/
def withOsc (p inc : BitVec 32) (w : Waveform) : State :=
  small.setOsc { phase := p, phaseIncrement := inc, waveform := w }

/-- V-ROM-1. -/
theorem test_rom_entries :
    (List.range 9).map rom = [0, 201, 402, 603, 804, 1005, 1206, 1407, 1608] ∧
    [rom 72, rom 73, rom 255, rom 257, rom 511, rom 513, rom 618, rom 619, rom 767, rom 769, rom 1023]
      = [14010, 14191, 32766, 32766, 201, -201, -19841, -20000, -32766, -32766, -201] := by decide

/-- V-OSC-1: 440 Hz, and the largest pattern at 8000 frames per second, whose quotient wraps. -/
theorem test_setfreq_440 :
    after (·.voice.osc.phaseIncrement) (exec (.oscSetfreq 0x01B80000#32) small) = some 0x0258BF25#32 := by
  decide

theorem test_setfreq_wraps :
    after (·.voice.osc.phaseIncrement)
      (exec (.oscSetfreq 0x7FFFFFFF#32) (State.resetWith ⟨8000, 1⟩)) = some 0x189374B4#32 := by decide

/-- V-OSC-2. -/
theorem test_setwave_falls_back :
    after (·.voice.osc.waveform) (exec (.oscSetwave 0x80000000#32) (withOsc 0#32 0#32 .saw)) = some .sine := by
  decide

theorem test_setwave_triangle :
    after (·.voice.osc.waveform) (exec (.oscSetwave 3#32) small) = some .triangle := by decide

/-- V-OSC-3, the rows of `0x3FFFFFFF`, `0x80000001` and `0x9ABCDEF0`. -/
theorem test_wave_rows :
    [wave .sine 0x3FFFFFFF#32, wave .saw 0x3FFFFFFF#32, wave .square 0x3FFFFFFF#32, wave .triangle 0x3FFFFFFF#32]
      = [1073709056, -536870913, 1073741824, -1] ∧
    [wave .sine 0x80000001#32, wave .saw 0x80000001#32, wave .square 0x80000001#32, wave .triangle 0x80000001#32]
      = [-2, 0, -1073741824, 1073741823] ∧
    [wave .sine 0x9ABCDEF0#32, wave .saw 0x9ABCDEF0#32, wave .square 0x9ABCDEF0#32, wave .triangle 0x9ABCDEF0#32]
      = [-655105262, 224292728, -1073741824, 625156368] := by decide

/-- V-OSC-4 call 1 and V-OSC-5. -/
theorem test_advance_sine :
    after (fun t => (t.voice.osc.phase, t.obs.value)) (exec .oscAdvance (withOsc 0#32 0x0258BF25#32 .sine))
      = some (0x0258BF25#32, 61811370) := by decide

theorem test_advance_wraps :
    after (fun t => (t.voice.osc.phase, t.obs.value))
      (exec .oscAdvance (withOsc 0xFFFFFFF0#32 0x20#32 .saw)) = some (0x10#32, -1073741816) := by decide

/-- V-FLT-1. -/
theorem test_setcutoff_below_range :
    after (·.voice.flt.cutoffCoefficient.toNat) (exec (.fltSetcutoff 0x00130000#32) small) = some 2811049 := by
  decide

theorem test_setcutoff_inside :
    after (·.voice.flt.cutoffCoefficient.toNat) (exec (.fltSetcutoff 0x1DD70000#32) small)
      = some 1073680364 := by decide

/-- V-FLT-2. -/
theorem test_setres_clamps :
    after (·.voice.flt.resonance.toNat) (exec (.fltSetres 0x80000000#32) small) = some 1020054732 := by decide

theorem test_effective_coefficients :
    [effCoef 1 536870912, effCoef 2814749 1020054732, effCoef 536870912 536870912, effCoef 1073741823 1020054732]
      = [1, 147748, 402653184, 1073741822] := by decide

/-- V-FLT-3: the second sample with resonance, and the tie asymmetry of a negative history. -/
theorem test_process_with_resonance :
    after (fun t => (t.obs.value, t.voice.flt.previousOutput.toInt))
      (exec (.fltProcess 1073741824) (withFlt 0x10000000#31 1020054732#30 77175194))
      = some (148803421, 148803421) := by decide

theorem test_process_rounds_a_tie_up :
    after (·.obs.value) (exec (.fltProcess 0) (withFlt 0x20000000#31 0#30 (-1))) = some 0 := by decide

/-- V-ENV-1. -/
theorem test_setparams :
    after (fun t => (t.voice.env.attackTime.toNat, t.voice.env.decayTime.toNat, t.voice.env.releaseTime.toNat,
        t.voice.env.sustainLevel.toNat)) (exec (.envSetparams 3#32 5001#32 0x50000000#32 10#32) small)
      = some (144, 240000, 480, 1073741824) := by decide

/-- V-ENV-2 step 1, and V-ENV-4: zero attack, a decay of two samples. -/
theorem test_gateon :
    after envColumns (exec .envGateon (withEnv .idle 0#31 0#31 0 4#32 2#32 3#32 536870912#31))
      = some (.attack, 0, 268435456, 1073741824) := by decide

theorem test_gateon_passes_an_empty_attack :
    after envColumns (exec .envGateon (withEnv .idle 0#31 0#31 0 0#32 2#32 3#32 536870912#31))
      = some (.decay, 1073741824, -268435456, 536870912) := by decide

/-- V-ENV-2 step 10, and V-ENV-6: a release at level 0. -/
theorem test_gateoff :
    after envColumns (exec .envGateoff (withEnv .sustain 536870912#31 536870912#31 0 4#32 2#32 3#32 536870912#31))
      = some (.release, 536870912, -178956971, 0) := by decide

theorem test_gateoff_at_level_zero :
    after envColumns (exec .envGateoff (withEnv .attack 0#31 levelOne 268435456 4#32 2#32 4#32 levelOne))
      = some (.idle, 0, 0, 0) := by decide

/-- V-ENV-4: the tick whose value is not the level it leaves, and V-ENV-2 step 14. -/
theorem test_tick_completes_attack :
    after (fun t => (t.obs.value, envColumns t))
      (exec .envTick (withEnv .attack 536870912#31 levelOne 536870912 2#32 0#32 0#32 536870912#31))
      = some (1073741824, .sustain, 536870912, 0, 536870912) := by decide

theorem test_tick_shortens_the_last_step :
    after (fun t => (t.obs.value, envColumns t))
      (exec .envTick (withEnv .release 178956970#31 0#31 (-178956971) 4#32 2#32 3#32 536870912#31))
      = some (0, .idle, 0, 0, 0) := by decide

/-- V-VOI-3. -/
theorem test_trigger :
    after (fun t => (t.voice.active, t.voice.frequency, envColumns t))
      (exec (.voiceTrigger 0x01B80000#32) (withEnv .idle 0#31 0#31 0 4#32 2#32 4#32 levelOne))
      = some (true, 0x01B80000#32, .attack, 0, 268435456, 1073741824) := by decide

theorem test_release_keeps_active :
    after (fun t => (t.voice.active, t.voice.env.stage))
      ((after id (exec (.voiceTrigger 0x01B80000#32) (withEnv .idle 0#31 0#31 0 4#32 2#32 4#32 levelOne))).elim
        (.refused .noFillRunning) (exec .voiceRelease)) = some (true, .idle) := by decide

/-- V-VOI-1 and the clearing of `active` in V-VOI-3. -/
theorem test_rendersample :
    after (·.obs.value) (exec .voiceRendersample { withEnv .sustain 536870912#31 536870912#31 0 0#32 0#32 0#32 levelOne with
      voice.osc := { phase := 0#32, phaseIncrement := 0#32, waveform := .square }
      voice.amplitude := 536870912#31 }) = some 268435456 := by decide

theorem test_rendersample_clears_active :
    after (fun t => (t.obs.value, t.voice.active)) (exec .voiceRendersample { small with voice.active := true })
      = some (0, false) := by decide

/-- V-PCM-1. -/
theorem test_pcm :
    [1073741824, 1073725440, 1073725439, 49152, 49151, 16384, 16383, -16384, -16385, -49152, -49153, -1073725440,
      -1073725441, -1073741824].map pcm = [32767, 32767, 32767, 2, 1, 1, 0, 0, -1, -1, -2, -32767, -32768, -32768] := by
  decide

/-- `small` with a published gate bit and what the last block start saw (V-BLK-1). -/
def withGate (now : Word) (before : Bool) : State :=
  { small with snap.bank0.gate := now, rend.prevGate := before, snap.bank0.noteFreq := 0x01B80000#32 }

/-- V-BLK-1. -/
theorem test_blockstart_rising_edge :
    after (fun t => (t.voice.active, t.voice.frequency, t.rend.prevGate))
      (exec .renderBlockstart (withGate 0xFFFFFFFF#32 false)) = some (true, 0x01B80000#32, true) := by decide

theorem test_blockstart_counts_bit_0_only :
    after (fun t => (t.voice.active, t.rend.prevGate)) (exec .renderBlockstart (withGate 2#32 false))
      = some (false, false) := by decide

/-- V-SCH-1 and program P4: the `STATUS` words after `HT`, and after the `TC` that finds it running. -/
theorem test_ht_starts_a_fill : after statusWord (exec .schedHt small) = some 0x103#32 := by decide

theorem test_tc_first : after statusWord (exec .schedTc small) = some 0x001#32 := by decide

theorem test_tc_during_a_fill :
    after (fun t => (statusWord t, t.sched.underrunCount))
      (exec .schedTc { small with sched := { own := .B, busy := true, fillTarget := .B, underrunFlag := false, underrunCount := 0#32 } })
      = some (0x105#32, 1#32) := by decide

/-- R268: the count saturates. -/
theorem test_ht_at_saturation :
    after (·.sched.underrunCount)
      (exec .schedHt { small with sched := { own := .B, busy := true, fillTarget := .B, underrunFlag := true, underrunCount := 0xFFFFFFFF#32 } })
      = some 0xFFFFFFFF#32 := by decide

/-- A fill of B in its last frame, with a held full-scale square: both words are 32767 (V-PCM-1). -/
def lastFrame : State :=
  { withEnv .sustain levelOne levelOne 0 0#32 0#32 0#32 levelOne with
    voice.osc := { phase := 0#32, phaseIncrement := 0#32, waveform := .square }
    rend := { frameIdx := 1#15, prevGate := false }
    sched := { own := .B, busy := true, fillTarget := .B, underrunFlag := false, underrunCount := 0#32 } }

theorem test_frame_writes_both_words :
    after (fun t => (List.range 8).map fun w => (t.out.readHalf w).toInt) (exec .renderFrame lastFrame)
      = some [0, 0, 32767, 32767, 0, 0, 0, 0] := by decide

theorem test_last_frame_ends_the_fill :
    after (fun t => (t.sched.busy, t.rend.frameIdx)) (exec .renderFrame lastFrame) = some (false, 0#15) := by decide

/-- R82, R277: the last frame of the first half, left and right word, and the raised `HT`. -/
theorem test_transmit :
    after (fun t => (t.obs.stream, t.txPos, t.trace))
      (exec .txFrame { small with txPos := 1, out := [(4, 0x5E#8), (5, 0x07#8), (6, 0xB6#8), (7, 0x0E#8)] })
      = some ([(1886#16, 3766#16)], 2, [.event 1]) := by decide

theorem test_reset :
    after (fun t => (t.voice.active, t.out, t.txPos)) (exec .reset { lastFrame with out := [(4, 1#8)], txPos := 3 })
      = some (false, [], 3) := by decide

/-- V-HOST-1. -/
theorem test_write_amplitude_clamps :
    after (·.voice.amplitude.toNat) (exec (.writeAmplitude 0xFFFFFFFF#32) small) = some 1073741824 := by decide

theorem test_write_goes_to_staging :
    after (fun t => (t.snap.bank0.waveform, t.snap.bank1.waveform)) (exec (.writeWaveform 7#32) small)
      = some (0#32, 7#32) := by decide

theorem test_read_published_cutoff :
    after lastRead (exec (.readPubCutoff 0#32) small) = some (some 0x4E200000#32) := by decide

theorem test_read_staging_after_publish :
    after lastRead (exec (.readSustain 0#32) { small with snap.pubIdx := true, snap.bank1.sustain := 5#32 })
      = some (some 0x40000000#32) := by decide

theorem test_reserved_read_returns_zero :
    after lastRead (exec (.reservedAccess false 0x18#8 9#32) small) = some (some 0#32) := by decide

theorem test_status_after_publish :
    after lastRead (exec (.readStatus 0#32) { small with snap.pubIdx := true }) = some (some 0x80#32) := by decide

/-- P3: `NOTE_ON` 3000 Hz and `NOTE_OFF` with zero times. -/
theorem test_note_on :
    after (fun t => (t.voice.osc.phaseIncrement, t.voice.active, t.voice.env.stage))
      (exec (.writeNoteOn 0x0BB80000#32) small) = some (0x10000000#32, true, .sustain) := by decide

theorem test_note_off :
    after (fun t => (t.voice.active, t.voice.env.stage))
      (exec (.writeNoteOff 0#32) { withEnv .sustain levelOne levelOne 0 0#32 0#32 0#32 levelOne with voice.active := true })
      = some (true, .idle) := by decide

/-- P3: the ten writes of its `SNAP` line. -/
theorem test_snap_line :
    expandLine ⟨48000, 4⟩ (.snap fun n => match n with
      | .waveform => 1#32 | .cutoff => 0x4E200000#32 | .resonance => 0#32 | .attackMs => 0#32 | .decayMs => 0#32
      | .sustain => 0x40000000#32 | .releaseMs => 0#32 | .noteFreq => 0#32 | .gate => 0#32)
    = [.host 0x12000000001, .host 0x1244E200000, .host 0x12800000000, .host 0x12C00000000, .host 0x13000000000,
       .host 0x13440000000, .host 0x13800000000, .host 0x13C00000000, .host 0x14000000000, .host 0x11400000000] := by
  decide

/-! ### Witnesses: states and operands that meet the hypotheses of the statements -/

def idleEnv : Envelope := small.voice.env
/-- The envelope of V-ENV-2 after steps 2, 6, 7 and 12. -/
def attackEnv : Envelope := (withEnv .attack 268435456#31 levelOne 268435456 4#32 2#32 3#32 536870912#31).voice.env
def decayEnv : Envelope := (withEnv .decay 805306368#31 536870912#31 (-268435456) 4#32 2#32 3#32 536870912#31).voice.env
def sustainEnv : Envelope := (withEnv .sustain 536870912#31 536870912#31 0 4#32 2#32 3#32 536870912#31).voice.env
def releaseEnv : Envelope := (withEnv .release 357913941#31 0#31 (-178956971) 4#32 2#32 3#32 536870912#31).voice.env

theorem idleEnv_ok : idleEnv.Ok ⟨48000, 2⟩ :=
  ⟨by decide, by decide, by decide, by decide, by decide, by decide, by decide, (by decide : idleEnv.level = 0#31 ∧ idleEnv.increment = 0#32 ∧ idleEnv.target = 0#31)⟩

theorem attackEnv_ok : attackEnv.Ok ⟨48000, 2⟩ :=
  ⟨by decide, by decide, by decide, by decide, by decide, by decide, by decide, (by decide : attackEnv.Ramping ∧ attackEnv.target = levelOne)⟩

theorem decayEnv_ok : decayEnv.Ok ⟨48000, 2⟩ :=
  ⟨by decide, by decide, by decide, by decide, by decide, by decide, by decide, (by decide : decayEnv.Ramping ∧ decayEnv.target.toNat < decayEnv.level.toNat)⟩

theorem sustainEnv_ok : sustainEnv.Ok ⟨48000, 2⟩ :=
  ⟨by decide, by decide, by decide, by decide, by decide, by decide, by decide, (by decide : sustainEnv.increment = 0#32 ∧ sustainEnv.target = sustainEnv.level)⟩

theorem releaseEnv_ok : releaseEnv.Ok ⟨48000, 2⟩ :=
  ⟨by decide, by decide, by decide, by decide, by decide, by decide, by decide, (by decide : releaseEnv.Ramping ∧ releaseEnv.target = 0#31)⟩

theorem small_ok : small.Ok where
  cfg := by decide
  voice := { flt := { coefficient := by decide, resonance := by decide, history := by decide }
             env := idleEnv_ok
             amplitude := by decide }
  sequencing := { index := by decide, rest := by decide, record := by decide, owned := by decide }
  out := { form := rfl, inside := fun _ _ => rfl }
  txPos := by decide

/-- `small` with the parts the witnesses choose. -/
def parts (e : Envelope) (r : Render) (c : Scheduler) (p : Nat) (l : List Signal) : State :=
  { small with voice.env := e, rend := r, sched := c, txPos := p, trace := l }

/-- Legal in its envelope, its sequencing registers and its position, `parts` is legal. -/
theorem parts_ok {e : Envelope} {r : Render} {c : Scheduler} {p : Nat} {l : List Signal} (he : e.Ok ⟨48000, 2⟩)
    (hq : SequencingOk { small with rend := r, sched := c }) (hp : p < 4) : (parts e r c p l).Ok where
  cfg := small_ok.cfg
  voice := { flt := small_ok.voice.flt, env := he, amplitude := small_ok.voice.amplitude }
  sequencing := { index := hq.index, rest := hq.rest, record := hq.record, owned := hq.owned }
  out := { form := rfl, inside := fun _ _ => rfl }
  txPos := hp

/-- A fill of B running, its first frame next, and its second and last frame next. -/
def fillSched : Scheduler := { own := .B, busy := true, fillTarget := .B, underrunFlag := false, underrunCount := 0#32 }
def firstOf (e : Envelope) (l : List Signal) : State := parts e { frameIdx := 0#15, prevGate := false } fillSched 0 l
def lastOf (e : Envelope) (l : List Signal) : State := parts e { frameIdx := 1#15, prevGate := false } fillSched 0 l

theorem firstOf_ok {e : Envelope} {l : List Signal} (he : e.Ok ⟨48000, 2⟩) : (firstOf e l).Ok :=
  parts_ok he ⟨by decide, by decide, by decide, by decide⟩ (by decide)

theorem lastOf_ok {e : Envelope} {l : List Signal} (he : e.Ok ⟨48000, 2⟩) : (lastOf e l).Ok :=
  parts_ok he ⟨by decide, by decide, by decide, by decide⟩ (by decide)

/-- No fill running, the position at the start of the loop. -/
def restOf (e : Envelope) (p : Nat) (l : List Signal) : State := parts e .atReset .atReset p l

theorem restOf_ok {e : Envelope} {p : Nat} {l : List Signal} (he : e.Ok ⟨48000, 2⟩) (hp : p < 4) : (restOf e p l).Ok :=
  parts_ok he ⟨by decide, by decide, by decide, by decide⟩ hp

/-- A fill of B running after one underrun: software owns A. -/
def lateSched : Scheduler := { own := .A, busy := true, fillTarget := .B, underrunFlag := true, underrunCount := 1#32 }

theorem late_ok {l : List Signal} : (parts idleEnv { frameIdx := 1#15, prevGate := false } lateSched 0 l).Ok :=
  parts_ok idleEnv_ok ⟨by decide, by decide, by decide, by decide⟩ (by decide)

theorem witness_StepRunsTheDecodedInstruction :
    (restOf idleEnv 0 [.event 3, .frame]).trace = .event 3 :: [.frame] ∧
    decode (.event 3) = .instr .schedHt [.event 2] ∧ Instr.schedHt.wf = true := by decide

theorem witness_StepWithoutAnInstruction :
    ((firstOf idleEnv []).trace = [] ∧ (firstOf idleEnv []).sched.busy = true) ∧
    (small.trace = [] ∧ small.sched.busy = false) ∧ decode (.event 0) = .noStep ∧
    decode (.host (2 ^ 41)) = .rejected .wideTransaction ∧ decode (.event 4) = .rejected .wideEvent := by decide

theorem witness_PresentedWordRunsNext :
    decodeTableWord 8 3 = some .schedHt ∧
    decodeTableWord 9 3 = some (.readStatus 3#32) := by decide

theorem witness_EventWordsDecode : 4 ≤ 4 := by decide

theorem witness_DecodeOfEncodeIsTheInstruction :
    (Instr.reservedAccess true 0xFF#8 0xFFFFFFFF#32).wf = true ∧
    encode (.reservedAccess true 0xFF#8 0xFFFFFFFF#32) = some (.host 0x1FFFFFFFFFF) ∧
    Instr.renderFrame.wf = true ∧ encode .renderFrame = some .frame := by decide

theorem witness_EveryHostWordIsAnInstruction :
    decode (.host (2 ^ 41 - 1)) = .instr (.reservedAccess true 0xFF#8 0xFFFFFFFF#32) [] ∧
    decode (.event 0) = .noStep ∧ decode (.event 3) = .instr .schedHt [.event 2] := by decide

theorem witness_PublishSwapsTheBanks : ∃ t, exec (.writePublish 0xABCD#32) small = .next t := ⟨_, rfl⟩

theorem witness_ReleasingTwiceIsReleasingOnce :
    (∃ t, exec .voiceRelease (restOf attackEnv 0 []) = .next t) ∧
    (∃ t, exec (.writeNoteOff 7#32) (restOf sustainEnv 0 []) = .next t) ∧
    (∃ t, exec .envGateoff (restOf idleEnv 0 []) = .next t) := ⟨⟨_, rfl⟩, ⟨_, rfl⟩, ⟨_, rfl⟩⟩

theorem witness_EventsFollowTheTransitionTable :
    small.sched.busy = false ∧ (firstOf idleEnv []).sched.busy = true := by decide

/-- A fill running with an underrun recorded and the count at its largest value. -/
def saturated : State := { firstOf idleEnv [] with sched.underrunFlag := true, sched.underrunCount := 0xFFFFFFFF#32 }

theorem witness_UnderrunRecordIsStickyAndSaturates :
    (∃ t, exec .schedTc saturated = .next t) ∧ saturated.sched.underrunFlag = true ∧
    saturated.sched.underrunCount = 0xFFFFFFFF#32 ∧ (∃ t, exec .reset saturated = .next t) :=
  ⟨⟨_, rfl⟩, rfl, rfl, ⟨_, rfl⟩⟩

theorem witness_RenderFrameWritesOneFrame :
    (firstOf idleEnv []).sched.busy = true ∧ (firstOf idleEnv []).out.wf = true ∧
    (firstOf idleEnv []).rend.frameIdx.toNat < (firstOf idleEnv []).cfg.bufFrames ∧
    (lastOf idleEnv []).sched.busy = true ∧ (lastOf idleEnv []).out.wf = true ∧
    (lastOf idleEnv []).rend.frameIdx.toNat = (lastOf idleEnv []).cfg.bufFrames - 1 := by decide

/-- An index just outside the block, which no run reaches. -/
def indexOutside : State := { firstOf idleEnv [] with rend.frameIdx := 2#15 }

theorem witness_FrameWithoutAFillIsRefused :
    small.sched.busy = false ∧ indexOutside.sched.busy = true ∧
    indexOutside.cfg.bufFrames ≤ indexOutside.rend.frameIdx.toNat := by decide

theorem witness_PcmIsTheNearestRepresentableValue :
    ((-Config.one ≤ -1073741824 ∧ (-1073741824 : Int) ≤ Config.one)) ∧
    (-Config.one ≤ 1073725440 ∧ (1073725440 : Int) ≤ Config.one) ∧
    (-Config.one ≤ 1073725439 ∧ (1073725439 : Int) < 1073725440) := by decide

theorem witness_FillRendersTheWholeBlock :
    (firstOf attackEnv []).Ok ∧ (firstOf attackEnv []).sched.busy = true ∧
    (firstOf attackEnv []).rend.frameIdx = 0#15 ∧ (firstOf attackEnv []).trace = [] :=
  ⟨firstOf_ok attackEnv_ok, rfl, rfl, rfl⟩

theorem witness_FramesWriteOnlyTheSoftwareOwnedBuffer :
    (lastOf sustainEnv []).Ok ∧ (lastOf sustainEnv []).sched.underrunFlag = false ∧
    (∃ t, exec .renderFrame (lastOf sustainEnv []) = .next t) ∧
    (Buffer.A ≠ (lastOf sustainEnv []).sched.own ∧ 2 * bufBase ⟨48000, 2⟩ .A ≤ 8 ∧
      15 < 2 * bufBase ⟨48000, 2⟩ .A + 4 * 2) :=
  ⟨lastOf_ok sustainEnv_ok, rfl, ⟨_, rfl⟩, by decide⟩

theorem witness_ControlRegistersHoldWithinABlock :
    (∃ t, exec .schedHt (firstOf decayEnv []) = .next t) ∧ (firstOf decayEnv []).sched.busy = true ∧
    (∃ t, exec .renderFrame (firstOf decayEnv []) = .next t) ∧ (∃ t, exec (.writeCutoff 5#32) small = .next t) :=
  ⟨⟨_, rfl⟩, rfl, ⟨_, rfl⟩, ⟨_, rfl⟩⟩

theorem witness_PhaseAndHistoryRunFree :
    (∃ t, exec (.voiceTrigger 5#32) small = .next t) ∧ (∃ t, exec (.fltProcess 5) small = .next t) ∧
    (∃ t, exec .oscAdvance small = .next t) := ⟨⟨_, rfl⟩, ⟨_, rfl⟩, ⟨_, rfl⟩⟩

theorem witness_BanksBelongToTheHost :
    ∃ t, exec (.writeGate 1#32) small = .next t ∧ t.snap ≠ small.snap := ⟨_, rfl, by decide⟩

theorem witness_LoopIsWrittenByFramesOnly : ∃ t, exec .schedTc small = .next t := ⟨_, rfl⟩

theorem witness_RomHasTheDocumentedProperties : 256 ≤ 256 ∧ 511 < 512 ∧ 1023 < 1024 := by decide

theorem witness_OscAdvanceReturnsTheWaveAtTheNewPhase :
    0x10#32 = (withOsc 0xFFFFFFF0#32 0x20#32 .saw).voice.osc.phase
      + (withOsc 0xFFFFFFF0#32 0x20#32 .saw).voice.osc.phaseIncrement := by decide

theorem witness_WaveformsJumpOnlyAtTheDocumentedPhases :
    0xFFFFFFFE#32 ≠ 0xFFFFFFFF#32 ∧ 0x7FFFFFFE#32 ≠ 0x7FFFFFFF#32 ∧ 0x80000000#32 ≠ 0x7FFFFFFF#32 := by decide

theorem witness_HighestCutoffIsAPassThrough :
    (small.cfg.Legal ∧ 0x4E200000 ≤ (0x4E200000#32).toNat ∧ ∃ t, exec (.fltSetcutoff 0x4E200000#32) small = .next t) ∧
    (-Config.one ≤ 1073741824 ∧ (1073741824 : Int) ≤ Config.one ∧
      (withFlt 0x40000000#31 1020054732#30 (-5)).voice.flt.cutoffCoefficient = 0x40000000#31 ∧
      ∃ t, exec (.fltProcess 1073741824) (withFlt 0x40000000#31 1020054732#30 (-5)) = .next t) :=
  ⟨⟨by decide, by decide, ⟨_, rfl⟩⟩, by decide, by decide, by decide, ⟨_, rfl⟩⟩

theorem witness_EffectiveCoefficientIsBoundedByTheCoefficient :
    ((1 : Int) ≤ 1 ∧ (1 : Int) ≤ Config.one ∧ (0 : Int) ≤ 0 ∧ (0 : Int) ≤ 1020054732 ∧
      (1020054732 : Int) ≤ Config.resMax) ∧ (1 : Int) ≤ Config.one ∧ Config.one ≤ Config.one := by decide

/-- V-FLT-3 with resonance, second sample. -/
theorem witness_FltProcessIsTheDifferenceEquation :
    (268435456 : Int) = (withFlt 0x10000000#31 1020054732#30 77175194).voice.flt.cutoffCoefficient.toNat ∧
    (1020054732 : Int) = (withFlt 0x10000000#31 1020054732#30 77175194).voice.flt.resonance.toNat ∧
    (77175194 : Int) = (withFlt 0x10000000#31 1020054732#30 77175194).voice.flt.previousOutput.toInt ∧
    (77175194 : Int) = max 1 (268435456 - (1020054732 *
      ((268435456 * (1073741824 - 268435456) + 536870912) / 1073741824) + 536870912) / 1073741824) ∧
    (148803421 : Int) = max (-1073741824) (min 1073741824
      ((77175194 * 1073741824 + (1073741824 - 77175194) * 77175194 + 536870912) / 1073741824)) := by decide

theorem witness_FilterIsStable :
    (withFlt 0x40000000#31 1020054732#30 (-1073741824)).voice.flt.Ok ∧
    -Config.one ≤ 1073741824 ∧ (1073741824 : Int) ≤ Config.one ∧
    ∃ t, exec (.fltProcess 1073741824) (withFlt 0x40000000#31 1020054732#30 (-1073741824)) = .next t :=
  ⟨⟨by decide, by decide, by decide⟩, by decide, by decide, ⟨_, rfl⟩⟩

/-- An attack of some samples; one of none; one at `ONE`; and what each leaves a Decay to do. -/
theorem witness_EnvGateonEntersAttack :
    (sustainEnv.level.toNat ≤ Config.oneNat ∧ sustainEnv.sustainLevel.toNat ≤ Config.oneNat) ∧
    (sustainEnv.attackTime ≠ 0#32 ∧ sustainEnv.level ≠ levelOne) ∧
    (({ sustainEnv with attackTime := 0#32 }).attackTime = 0#32 ∧ sustainEnv.decayTime ≠ 0#32 ∧
      sustainEnv.sustainLevel ≠ levelOne) ∧
    (({ sustainEnv with level := levelOne, decayTime := 0#32 }).level = levelOne) ∧
    (({ sustainEnv with level := levelOne, sustainLevel := levelOne }).sustainLevel = levelOne) := by decide

theorem witness_EnvGateoffEntersRelease :
    idleEnv.stage = .idle ∧ releaseEnv.stage = .release ∧
    (attackEnv.stage ≠ .idle ∧ attackEnv.stage ≠ .release ∧ attackEnv.releaseTime ≠ 0#32 ∧ attackEnv.level ≠ 0#31) ∧
    ({ attackEnv with releaseTime := 0#32 }).releaseTime = 0#32 ∧ ({ attackEnv with level := 0#31 }).level = 0#31 := by
  decide

/-- Legal envelopes in the five stages, and ticks that land on their targets (V-ENV-2). -/
theorem witness_EnvTickRampsByTheIncrement :
    ((restOf idleEnv 0 []).voice.env.Ok ⟨48000, 2⟩ ∧ idleEnv.stage = .idle) ∧
    (attackEnv.Ok ⟨48000, 2⟩ ∧ attackEnv.stage = .attack) ∧ (decayEnv.Ok ⟨48000, 2⟩ ∧ decayEnv.stage = .decay) ∧
    (sustainEnv.Ok ⟨48000, 2⟩ ∧ sustainEnv.stage = .sustain) ∧
    (releaseEnv.Ok ⟨48000, 2⟩ ∧ releaseEnv.stage = .release) ∧
    (decayEnv.tick.1 = decayEnv.target.toNat ∧ attackEnv.tick.1 ≠ attackEnv.target.toNat) :=
  ⟨⟨idleEnv_ok, rfl⟩, ⟨attackEnv_ok, rfl⟩, ⟨decayEnv_ok, rfl⟩, ⟨sustainEnv_ok, rfl⟩, ⟨releaseEnv_ok, rfl⟩, by decide⟩

theorem witness_RampTakesItsNumberOfTicks :
    (attackEnv.Ok ⟨48000, 2⟩ ∧ attackEnv.stage = .attack ∧ ((3 : Nat) : Int) =
      (|(attackEnv.target.toNat : Int) - attackEnv.level.toNat| + |attackEnv.increment.toInt| - 1)
        / |attackEnv.increment.toInt|) ∧
    (decayEnv.Ok ⟨48000, 2⟩ ∧ decayEnv.stage = .decay ∧ ((1 : Nat) : Int) =
      (|(decayEnv.target.toNat : Int) - decayEnv.level.toNat| + |decayEnv.increment.toInt| - 1)
        / |decayEnv.increment.toInt|) ∧
    (releaseEnv.Ok ⟨48000, 2⟩ ∧ releaseEnv.stage = .release ∧ ((2 : Nat) : Int) =
      (|(releaseEnv.target.toNat : Int) - releaseEnv.level.toNat| + |releaseEnv.increment.toInt| - 1)
        / |releaseEnv.increment.toInt|) :=
  ⟨⟨attackEnv_ok, rfl, by decide⟩, ⟨decayEnv_ok, rfl, by decide⟩, releaseEnv_ok, rfl, by decide⟩

theorem witness_HeldNoteReachesSustainAndReleasedNoteReachesIdle :
    (⟨48000, 2⟩ : Config).Legal ∧ (attackEnv.Ok ⟨48000, 2⟩ ∧ attackEnv.stage = .attack) ∧
    (decayEnv.Ok ⟨48000, 2⟩ ∧ decayEnv.stage = .decay) ∧ (sustainEnv.Ok ⟨48000, 2⟩ ∧ sustainEnv.stage = .sustain) :=
  ⟨by decide, ⟨attackEnv_ok, rfl⟩, ⟨decayEnv_ok, rfl⟩, sustainEnv_ok, rfl⟩

theorem witness_RenderedSampleStaysInFullScale :
    (restOf decayEnv 0 []).Ok ∧ small.Ok ∧ small.voice.env.stage = .idle :=
  ⟨restOf_ok decayEnv_ok (by decide), small_ok, rfl⟩

/-- The last position of each half, and one just outside the loop, which no run reaches. -/
theorem witness_TxFrameEmitsALoopFrame :
    ((restOf idleEnv 1 []).txPos < 2 * 2 ∧ (restOf idleEnv 1 []).txPos + 1 = 2) ∧
    ((restOf idleEnv 3 []).txPos < 2 * 2 ∧ (restOf idleEnv 3 []).txPos + 1 = 2 * 2) ∧
    2 * 2 ≤ (restOf idleEnv 4 []).txPos := by decide

theorem witness_ResetBlockIsSilent :
    (⟨8000, 1⟩ : Config).Legal ∧ (⟨96000, 32768⟩ : Config).Legal := by decide

theorem witness_ResetIsLegal : (⟨8000, 1⟩ : Config).Legal ∧ (⟨96000, 32768⟩ : Config).Legal := by decide

theorem witness_EveryOperationKeepsLegality :
    (lastOf attackEnv []).Ok ∧ ∃ t, exec .renderFrame (lastOf attackEnv []) = .next t :=
  ⟨lastOf_ok attackEnv_ok, ⟨_, rfl⟩⟩

theorem witness_EveryStepKeepsLegality :
    (restOf decayEnv 3 [.transmit]).Ok ∧ ∃ t, step (restOf decayEnv 3 [.transmit]) = .next t :=
  ⟨restOf_ok decayEnv_ok (by decide), ⟨_, rfl⟩⟩

theorem witness_LegalStatesNeverFault :
    (lastOf decayEnv []).Ok ∧ (restOf idleEnv 0 [.frame]).Ok ∧ (restOf idleEnv 0 [.host (2 ^ 41)]).Ok ∧
    (restOf idleEnv 0 [.event 4]).Ok ∧ Instr.txFrame ≠ .renderFrame :=
  ⟨lastOf_ok decayEnv_ok, restOf_ok idleEnv_ok (by decide), restOf_ok idleEnv_ok (by decide),
    restOf_ok idleEnv_ok (by decide), by decide⟩

theorem witness_SimultaneousEventsAreAnUnderrun :
    ((restOf idleEnv 0 [.event 3]).trace = [.event 3] ∧ (restOf idleEnv 0 [.event 3]).sched.busy = false ∧
      (restOf idleEnv 0 [.event 3]).sched.underrunCount.toNat + 2 < 2 ^ 32) ∧
    ((firstOf idleEnv [.event 3]).trace = [.event 3] ∧ (firstOf idleEnv [.event 3]).sched.busy = true ∧
      (firstOf idleEnv [.event 3]).sched.underrunCount.toNat + 2 < 2 ^ 32) := by decide

/-- Two-frame buffers: the first fill's frames fall before and between the transmit steps of its
period; the second fill has rendered one of its two frames. -/
def periods : List Signal :=
  [.transmit, .transmit, .frame, .transmit, .frame, .transmit, .transmit, .frame]

/-- The first period of the same kind with host accesses among its steps. -/
def periodsWithHost : List Signal :=
  [.host 0x14000000001, .transmit, .host 0x11400000000, .transmit, .frame, .host 0x10C0BB80000, .transmit, .frame,
   .transmit]

theorem witness_TransmittedStreamIsTheRenderedStream :
    (restOf sustainEnv 0 periods).Ok ∧ (restOf sustainEnv 0 periods).sched.busy = false ∧
    (restOf sustainEnv 0 periods).txPos = 0 ∧ (restOf sustainEnv 0 periods).trace = periods ∧
    deadlineMet 2 0 0 periods = true ∧ 10 = periods.length + periods.count .transmit / 2 ∧
    (∀ x, Signal.host x ∉ periods) :=
  ⟨restOf_ok sustainEnv_ok (by decide), rfl, rfl, rfl, by decide, by decide, fun x h => by simp [periods] at h⟩

theorem witness_TransmittedStreamWithHostAccesses :
    (restOf sustainEnv 0 periodsWithHost).Ok ∧ (restOf sustainEnv 0 periodsWithHost).sched.busy = false ∧
    (restOf sustainEnv 0 periodsWithHost).txPos = 0 ∧ deadlineMet 2 0 0 periodsWithHost = true :=
  ⟨restOf_ok sustainEnv_ok (by decide), rfl, rfl, by decide⟩

/-- A frame still to come when the next event is raised misses the deadline (R278). -/
theorem test_missed_deadline :
    deadlineMet 2 0 0 [.transmit, .transmit, .frame, .transmit, .transmit, .frame] = false := by decide

theorem witness_DatapathArithmeticIsBounded :
    ((0 : Int) ≤ Config.one ∧ (0 : Int) ≤ 5 ∧ (-5 : Int) ≤ 0) ∧ (1 : Int) ≤ 1 ∧ (0 : Int) < 5 ∧ (-5 : Int) < 0 := by
  decide

end Sys2Proof.Tests
end

/-! The proofs of the scope family: the datapath's product and quotient (00_scope.md R14, R16), and
what a step runs (00_scope.md R21). -/

namespace Sys2Proof.Machine

/-! ### The product -/

@[simp] theorem qmul_one (a : Int) : qmul a Config.one = a := by
  rw [qmul_eq, Config.one]
  omega

@[simp] theorem qmul_zero (a : Int) : qmul a 0 = 0 := by
  rw [qmul_eq, mul_zero]
  rfl

/-- Rounding to the nearest does not leave an interval with integer ends: the lower end. -/
theorem le_qmul {a b lo : Int} (h : lo * Config.one ≤ a * b) : lo ≤ qmul a b := by
  rw [Config.one] at h
  rw [qmul_eq]
  omega

/-- Rounding to the nearest does not leave an interval with integer ends: the upper end. -/
theorem qmul_le {a b hi : Int} (h : a * b ≤ hi * Config.one) : qmul a b ≤ hi := by
  rw [Config.one] at h
  rw [qmul_eq]
  omega

/-- A factor in `0 .. ONE` moves a nonnegative number toward zero. -/
theorem qmul_mem_of_nonneg {a b : Int} (ha : 0 ≤ a) (hb : 0 ≤ b) (hb' : b ≤ Config.one) :
    0 ≤ qmul a b ∧ qmul a b ≤ a :=
  ⟨le_qmul (by simpa using mul_nonneg ha hb), qmul_le (mul_le_mul_of_nonneg_left hb' ha)⟩

/-- A factor in `0 .. ONE` moves a nonpositive number toward zero. -/
theorem qmul_mem_of_nonpos {a b : Int} (ha : a ≤ 0) (hb : 0 ≤ b) (hb' : b ≤ Config.one) :
    a ≤ qmul a b ∧ qmul a b ≤ 0 :=
  ⟨le_qmul (mul_le_mul_of_nonpos_left hb' ha), qmul_le (by simpa using mul_nonpos_of_nonpos_of_nonneg ha hb)⟩

/-! ### The quotient away from zero -/

theorem divAway_of_nonneg {d : Int} (hd : 0 ≤ d) (n : Int) : divAway d n = (d + n - 1) / n := if_pos hd

@[simp] theorem divAway_zero {n : Int} (hn : 1 ≤ n) : divAway 0 n = 0 := by
  rw [divAway_of_nonneg le_rfl]
  exact Int.ediv_eq_zero_of_lt (by omega) (by omega)

/-- The quotient is odd in its numerator. -/
theorem divAway_neg {n : Int} (hn : 1 ≤ n) (d : Int) : divAway (-d) n = -divAway d n := by
  rcases lt_trichotomy d 0 with hd | rfl | hd
  · simp only [divAway, if_pos (show 0 ≤ -d by omega), if_neg (show ¬ 0 ≤ d by omega), neg_neg]
  · simp only [neg_zero, divAway_zero hn]
  · simp only [divAway, if_neg (show ¬ 0 ≤ -d by omega), if_pos hd.le, neg_neg]

/-- Where the quotient of a nonnegative distance lies: `n` times it is the first multiple of `n`
that reaches the distance. -/
theorem mul_divAway_bounds {d n : Int} (hd : 0 ≤ d) (hn : 1 ≤ n) :
    d ≤ n * divAway d n ∧ n * divAway d n < d + n := by
  rw [divAway_of_nonneg hd]
  have hdiv := Int.mul_ediv_add_emod (d + n - 1) n
  have hlo := Int.emod_nonneg (d + n - 1) (show n ≠ 0 by omega)
  have hhi := Int.emod_lt_of_pos (d + n - 1) (show 0 < n by omega)
  omega

theorem divAway_nonneg {d n : Int} (hd : 0 ≤ d) (hn : 1 ≤ n) : 0 ≤ divAway d n := by
  rw [divAway_of_nonneg hd]
  exact Int.ediv_nonneg (by omega) (by omega)

theorem divAway_pos {d n : Int} (hd : 0 < d) (hn : 1 ≤ n) : 0 < divAway d n := by
  obtain ⟨hcover, _⟩ := mul_divAway_bounds hd.le hn
  exact pos_of_mul_pos_right (hd.trans_le hcover) (by omega)

/-- No step is longer than the distance: `n * (d + 1)` already lies a whole `n` beyond it. -/
theorem divAway_le_self {d n : Int} (hd : 0 ≤ d) (hn : 1 ≤ n) : divAway d n ≤ d := by
  obtain ⟨_, hlt⟩ := mul_divAway_bounds hd hn
  have hprod : d ≤ n * d := le_mul_of_one_le_left hd hn
  have hmul : n * divAway d n < n * (d + 1) := by
    calc n * divAway d n < d + n := hlt
      _ ≤ n * (d + 1) := by rw [mul_add, mul_one]; omega
  exact Int.lt_add_one_iff.mp (lt_of_mul_lt_mul_left hmul (by omega))

/-- The quotient's magnitude is the quotient of the magnitude. -/
theorem abs_divAway {n : Int} (hn : 1 ≤ n) (d : Int) : |divAway d n| = divAway |d| n := by
  rcases le_total 0 d with hd | hd
  · rw [abs_of_nonneg hd, abs_of_nonneg (divAway_nonneg hd hn)]
  · have hq : 0 ≤ -divAway d n := divAway_neg hn d ▸ divAway_nonneg (neg_nonneg.mpr hd) hn
    rw [abs_of_nonpos hd, divAway_neg hn, abs_of_nonpos (neg_nonneg.mp hq)]

theorem divAway_pos_iff {n : Int} (hn : 1 ≤ n) (d : Int) : 0 < divAway d n ↔ 0 < d := by
  refine ⟨fun hq => ?_, fun hd => divAway_pos hd hn⟩
  by_contra hd
  have hneg : 0 ≤ divAway (-d) n := divAway_nonneg (by omega) hn
  rw [divAway_neg hn] at hneg
  omega

theorem divAway_neg_iff {n : Int} (hn : 1 ≤ n) (d : Int) : divAway d n < 0 ↔ d < 0 := by
  simpa [divAway_neg hn] using divAway_pos_iff hn (-d)

/-- Settles O60: the product's bounds by the sign of `a`, the quotient's by its magnitude. -/
theorem datapathArithmeticIsBounded : Obligations.DatapathArithmeticIsBounded := by
  refine ⟨fun a b => ⟨qmul_one a, qmul_zero a, fun hb hb' =>
    ⟨fun ha => qmul_mem_of_nonneg ha hb hb', fun ha => qmul_mem_of_nonpos ha hb hb'⟩⟩, fun d n hn => ?_⟩
  obtain ⟨hcover, hlt⟩ := mul_divAway_bounds (abs_nonneg d) hn
  rw [abs_divAway hn]
  refine ⟨(divAway_pos_iff hn d).symm, (divAway_neg_iff hn d).symm, hcover,
    divAway_le_self (abs_nonneg d) hn, ?_⟩
  rw [mul_sub, mul_one]
  omega

/-! ### What a step runs -/

/-- A trace head that decodes to an operation is consumed, and the operation runs in what is left. -/
theorem fetch_of_decode_instr {s : State} {sig : Signal} {rest after : List Signal} {i : Instr}
    (htr : s.trace = sig :: rest) (hdec : decode sig = .instr i after) :
    fetch s = .run i (s.setTrace (after ++ rest)) := by
  simp only [fetch, htr, fetchSignal, hdec]

theorem step_of_fetch_run {s t : State} {i : Instr} (h : fetch s = .run i t) : step s = exec i t := by
  simp only [step, h]

/-- Settles O1: the fetched operation is the decoded one. -/
theorem stepRunsTheDecodedInstruction : Obligations.StepRunsTheDecodedInstruction := by
  intro s sig rest after i htr hdec _hwf
  exact step_of_fetch_run (fetch_of_decode_instr htr hdec)

end Sys2Proof.Machine

/-! The proofs of the state family: what each operation can change (10_state.md R30 to R62), the
legal values that every operation and every step keep (R42 to R55), and reset (R64, R65). -/

namespace Sys2Proof.Machine

/-! ### What an operation can change -/

/-- The operation that writes a staging field (46_host_interface.md R293). -/
def stagingWrite : Field → Word → Instr
  | .waveform => .writeWaveform
  | .cutoff => .writeCutoff
  | .resonance => .writeResonance
  | .attackMs => .writeAttackMs
  | .decayMs => .writeDecayMs
  | .sustain => .writeSustain
  | .releaseMs => .writeReleaseMs
  | .noteFreq => .writeNoteFreq
  | .gate => .writeGate

theorem encode_stagingWrite (f : Field) (d : Word) :
    ∃ a, encode (stagingWrite f d) = some (.host (hostWord true a d)) := by
  cases f <;> exact ⟨_, rfl⟩

/-- `VoiceEffect c v i v'`: the operation `i` acts on the Voice alone, and turns `v` into `v'`. -/
inductive VoiceEffect (c : Config) (v : Voice) : Instr → Voice → Prop
  | amplitude (d : Word) : VoiceEffect c v (.writeAmplitude d) { v with amplitude := unitOf d }
  | noteOn (f : Word) : VoiceEffect c v (.writeNoteOn f) (v.trigger c f)
  | noteOff (d : Word) : VoiceEffect c v (.writeNoteOff d) v.release
  | setFreq (f : Word) : VoiceEffect c v (.oscSetfreq f) { v with osc := v.osc.setFreq c f }
  | setWave (w : Word) : VoiceEffect c v (.oscSetwave w) { v with osc := v.osc.setWave w }
  | advance : VoiceEffect c v .oscAdvance { v with osc := v.osc.step }
  | setCutoff (w : Word) : VoiceEffect c v (.fltSetcutoff w) { v with flt := v.flt.setCutoff c w }
  | setRes (r : Word) : VoiceEffect c v (.fltSetres r) { v with flt := v.flt.setRes r }
  | process (x : Int) : VoiceEffect c v (.fltProcess x) { v with flt := (v.flt.process x).2 }
  | setParams (a d sl rl : Word) :
      VoiceEffect c v (.envSetparams a d sl rl) { v with env := v.env.setParams c a d sl rl }
  | gateOn : VoiceEffect c v .envGateon { v with env := v.env.gateOn }
  | gateOff : VoiceEffect c v .envGateoff { v with env := v.env.gateOff }
  | tick : VoiceEffect c v .envTick { v with env := v.env.tick.2 }
  | trigger (f : Word) : VoiceEffect c v (.voiceTrigger f) (v.trigger c f)
  | release : VoiceEffect c v .voiceRelease v.release
  | sample : VoiceEffect c v .voiceRendersample v.afterSample

/-- The output loop after the next frame of the running fill (44_render_engine.md R245). -/
def frameOut (s : State) : Memory :=
  (s.out.writeHalf (bufBase s.cfg s.sched.fillTarget + 2 * s.rend.frameIdx.toNat)
    (pcmWord (pcm s.voice.sample))).writeHalf
    (bufBase s.cfg s.sched.fillTarget + (2 * s.rend.frameIdx.toNat + 1)) (pcmWord (pcm s.voice.sample))

/-- `Effect s i t`: everything that the operation `i` can make of the state `s`. -/
inductive Effect (s : State) : Instr → State → Prop
  | observe (i : Instr) (o : Observed) : Effect s i (s.setObs o)
  | stage (f : Field) (d : Word) : Effect s (stagingWrite f d) (writeStaging f d s)
  | publish (d : Word) : Effect s (.writePublish d) (s.setSnap s.snap.publish)
  | voice {i : Instr} {v : Voice} (o : Observed) (hv : VoiceEffect s.cfg s.voice i v) :
      Effect s i ((s.setVoice v).setObs o)
  | ht : Effect s .schedHt (takeEvent .B s)
  | tc : Effect s .schedTc (takeEvent .A s)
  | startBlock : Effect s .renderBlockstart (blockStart s)
  | frame (hbusy : s.sched.busy = true) (hidx : s.rend.frameIdx.toNat < s.cfg.bufFrames) :
      Effect s .renderFrame (endFrame ((s.setVoice s.voice.afterSample).setOut (frameOut s)))
  | reset : Effect s .reset { State.resetWith s.cfg with txPos := s.txPos, obs := s.obs, trace := s.trace }
  | transmit (o : Observed) (tr : List Signal) (hpos : s.txPos < 2 * s.cfg.bufFrames) :
      Effect s .txFrame (((s.setObs o).setTxPos (txNext s.cfg s.txPos)).setTrace tr)

theorem Effect.of_next {i : Instr} {s t u : State} (hu : Effect s i u)
    (h : (.next u : Host.Outcome State Fault Refusal) = .next t) : Effect s i t :=
  Host.Outcome.next.inj h ▸ hu

theorem effect_of_execRenderFrame {s t : State} (h : execRenderFrame s = .next t) :
    Effect s .renderFrame t := by
  rcases execRenderFrame_cases s with ⟨_, hx⟩ | ⟨_, _, hx⟩ | ⟨hbusy, hidx, hx⟩ <;> rw [hx] at h
  · cases h
  · cases h
  · exact .of_next (.frame hbusy hidx) h

theorem raiseAt_eq_setTrace (c : Config) (p : Nat) (s : State) : ∃ tr, raiseAt c p s = s.setTrace tr := by
  rcases raiseAt_cases c p s with ⟨_, h⟩ | ⟨_, _, h⟩ | ⟨_, _, h⟩
  · exact ⟨_, h⟩
  · exact ⟨_, h⟩
  · exact ⟨s.trace, h⟩

theorem effect_of_execTxFrame {s t : State} (h : execTxFrame s = .next t) : Effect s .txFrame t := by
  rcases execTxFrame_cases s with ⟨_, hx⟩ | ⟨hpos, hx⟩ <;> rw [hx] at h
  · cases h
  · obtain ⟨tr, hr⟩ := raiseAt_eq_setTrace s.cfg s.txPos ((s.emits (s.out.readHalf (2 * s.txPos))
      (s.out.readHalf (2 * s.txPos + 1))).setTxPos (txNext s.cfg s.txPos))
    rw [hr] at h
    exact .of_next (.transmit _ tr hpos) h

/-- Every operation has one of the listed effects, whatever its operands. -/
theorem effect_of_exec {i : Instr} {s t : State} (h : exec i s = .next t) : Effect s i t := by
  cases i with
  | readStatus | readUnderrunCount | readAmplitude | readWaveform | readCutoff | readResonance
  | readAttackMs | readDecayMs | readSustain | readReleaseMs | readNoteFreq | readGate
  | readPubWaveform | readPubCutoff | readPubResonance | readPubAttackMs | readPubDecayMs
  | readPubSustain | readPubReleaseMs | readPubNoteFreq | readPubGate =>
    exact .of_next (.observe _ _) h
  | reservedAccess we addr data =>
    cases we with
    | false => exact .of_next (.observe _ _) h
    | true => exact .of_next (.observe _ s.obs) h
  | writeWaveform d => exact .of_next (.stage .waveform d) h
  | writeCutoff d => exact .of_next (.stage .cutoff d) h
  | writeResonance d => exact .of_next (.stage .resonance d) h
  | writeAttackMs d => exact .of_next (.stage .attackMs d) h
  | writeDecayMs d => exact .of_next (.stage .decayMs d) h
  | writeSustain d => exact .of_next (.stage .sustain d) h
  | writeReleaseMs d => exact .of_next (.stage .releaseMs d) h
  | writeNoteFreq d => exact .of_next (.stage .noteFreq d) h
  | writeGate d => exact .of_next (.stage .gate d) h
  | writePublish d => exact .of_next (.publish d) h
  | writeAmplitude d => exact .of_next (.voice s.obs (.amplitude d)) h
  | writeNoteOn f => exact .of_next (.voice s.obs (.noteOn f)) h
  | writeNoteOff d => exact .of_next (.voice s.obs (.noteOff d)) h
  | oscSetfreq f => exact .of_next (.voice s.obs (.setFreq f)) h
  | oscSetwave w => exact .of_next (.voice s.obs (.setWave w)) h
  | oscAdvance => exact .of_next (.voice _ .advance) h
  | fltSetcutoff w => exact .of_next (.voice s.obs (.setCutoff w)) h
  | fltSetres r => exact .of_next (.voice s.obs (.setRes r)) h
  | fltProcess x => exact .of_next (.voice _ (.process x)) h
  | envSetparams a d sl rl => exact .of_next (.voice s.obs (.setParams a d sl rl)) h
  | envGateon => exact .of_next (.voice s.obs .gateOn) h
  | envGateoff => exact .of_next (.voice s.obs .gateOff) h
  | envTick => exact .of_next (.voice _ .tick) h
  | voiceTrigger f => exact .of_next (.voice s.obs (.trigger f)) h
  | voiceRelease => exact .of_next (.voice s.obs .release) h
  | voiceRendersample => exact .of_next (.voice _ .sample) h
  | schedHt => exact .of_next .ht h
  | schedTc => exact .of_next .tc h
  | renderBlockstart => exact .of_next .startBlock h
  | renderFrame => exact effect_of_execRenderFrame h
  | reset => exact .of_next .reset h
  | txFrame => exact effect_of_execTxFrame h

/-! ### What an event and the end of a frame leave unchanged -/

@[simp] theorem takeEvent_cfg (b : Buffer) (s : State) : (takeEvent b s).cfg = s.cfg := by
  rcases takeEvent_cases b s with ⟨_, h⟩ | ⟨_, h⟩ <;> simp [h]

@[simp] theorem takeEvent_snap (b : Buffer) (s : State) : (takeEvent b s).snap = s.snap := by
  rcases takeEvent_cases b s with ⟨_, h⟩ | ⟨_, h⟩ <;> simp [h]

@[simp] theorem takeEvent_out (b : Buffer) (s : State) : (takeEvent b s).out = s.out := by
  rcases takeEvent_cases b s with ⟨_, h⟩ | ⟨_, h⟩ <;> simp [h]

@[simp] theorem takeEvent_txPos (b : Buffer) (s : State) : (takeEvent b s).txPos = s.txPos := by
  rcases takeEvent_cases b s with ⟨_, h⟩ | ⟨_, h⟩ <;> simp [h]

@[simp] theorem endFrame_cfg (s : State) : (endFrame s).cfg = s.cfg := by
  rcases endFrame_cases s with ⟨_, h⟩ | ⟨_, h⟩ <;> rw [h]

@[simp] theorem endFrame_voice (s : State) : (endFrame s).voice = s.voice := by
  rcases endFrame_cases s with ⟨_, h⟩ | ⟨_, h⟩ <;> rw [h]

@[simp] theorem endFrame_snap (s : State) : (endFrame s).snap = s.snap := by
  rcases endFrame_cases s with ⟨_, h⟩ | ⟨_, h⟩ <;> rw [h]

@[simp] theorem endFrame_out (s : State) : (endFrame s).out = s.out := by
  rcases endFrame_cases s with ⟨_, h⟩ | ⟨_, h⟩ <;> rw [h]

@[simp] theorem endFrame_txPos (s : State) : (endFrame s).txPos = s.txPos := by
  rcases endFrame_cases s with ⟨_, h⟩ | ⟨_, h⟩ <;> rw [h]

@[simp] theorem writeStaging_cfg (f : Field) (d : Word) (s : State) : (writeStaging f d s).cfg = s.cfg := rfl
@[simp] theorem writeStaging_out (f : Field) (d : Word) (s : State) : (writeStaging f d s).out = s.out := rfl

/-! ### The legal values of the filter (10_state.md R33 to R35) -/

theorem coefficientOf_mem (c : Config) (cut : Word) :
    1 ≤ (coefficientOf c cut).toNat ∧ (coefficientOf c cut).toNat ≤ Config.oneNat := by
  rw [coefficientOf_toNat]
  rcases clampNat_cases (Config.twoPiQ28 * clampNat cut.toNat Config.cutoffMin Config.cutoffMax /
    (c.sampleRate * 16384)) 1 Config.oneNat with ⟨_, h⟩ | ⟨_, _, h⟩ | ⟨hlo, hhi, h⟩ <;> rw [h]
  · decide
  · decide
  · exact ⟨hlo, hhi⟩

theorem configOne_eq : Config.one = 1073741824 := rfl
theorem configOneNat_eq : Config.oneNat = 1073741824 := rfl

theorem Filter.Ok.setCutoff {f : Filter} (hf : f.Ok) (c : Config) (w : Word) : (f.setCutoff c w).Ok where
  coefficient := coefficientOf_mem c w
  resonance := hf.resonance
  history := hf.history

theorem Filter.Ok.setRes {f : Filter} (hf : f.Ok) (r : Word) : (f.setRes r).Ok where
  coefficient := hf.coefficient
  resonance := by
    rw [Filter.setRes_resonance, resonanceOf_toNat]
    exact min_le_right _ _
  history := hf.history

/-- The history is the clamped output, whatever the input (41_filter.md R176). -/
theorem Filter.Ok.process {f : Filter} (hf : f.Ok) (x : Int) : (f.process x).2.Ok where
  coefficient := hf.coefficient
  resonance := hf.resonance
  history := by
    have hlo : -Config.one ≤ f.output x := le_clamp (by decide)
    have hhi : f.output x ≤ Config.one := clamp_le (by decide)
    have hone := configOne_eq
    rw [Filter.process_previousOutput, toInt_ofInt32 (by omega) (by omega)]
    exact ⟨hlo, hhi⟩

/-! ### The legal values of the envelope (10_state.md R36 to R42) -/

/-- The ranges of the envelope's registers, without what the stage says of them: what holds also
inside an operation, between the registers it writes (10_state.md R37 to R41). -/
structure Envelope.InRange (c : Config) (e : Envelope) : Prop where
  level : e.level.toNat ≤ Config.oneNat
  target : e.target.toNat ≤ Config.oneNat
  sustain : e.sustainLevel.toNat ≤ Config.oneNat
  increment : -Config.one ≤ e.increment.toInt ∧ e.increment.toInt ≤ Config.one
  attack : e.attackTime.toNat ≤ Config.msMax * c.sampleRate / 1000
  decay : e.decayTime.toNat ≤ Config.msMax * c.sampleRate / 1000
  release : e.releaseTime.toNat ≤ Config.msMax * c.sampleRate / 1000

section Envelope
variable {c : Config} {e : Envelope}

theorem Envelope.Ok.inRange (he : e.Ok c) : e.InRange c :=
  ⟨he.level, he.target, he.sustain, he.increment, he.attack, he.decay, he.release⟩

theorem Envelope.InRange.ok (he : e.InRange c) (hst : e.StageOk) : e.Ok c :=
  ⟨he.level, he.target, he.sustain, he.increment, he.attack, he.decay, he.release, hst⟩

theorem Envelope.InRange.withLevel (he : e.InRange c) {l : BitVec 31} (hl : l.toNat ≤ Config.oneNat) :
    Envelope.InRange c { e with level := l } :=
  ⟨hl, he.target, he.sustain, he.increment, he.attack, he.decay, he.release⟩

theorem samplesOf_le (hc : c.Legal) (ms : Word) :
    (samplesOf c ms).toNat ≤ Config.msMax * c.sampleRate / 1000 := by
  rw [samplesOf_toNat hc]
  exact Nat.div_le_div_right (Nat.mul_le_mul_right _ (min_le_right _ _))

theorem unitOf_le (p : Word) : (unitOf p).toNat ≤ Config.oneNat := by
  rw [unitOf_toNat]
  exact min_le_right _ _

/-- New parameters leave the stage, the level and the running ramp alone (42_envelope.md R191). -/
theorem Envelope.Ok.setParams (hc : c.Legal) (he : e.Ok c) (a d sl rl : Word) :
    (e.setParams c a d sl rl).Ok c where
  level := he.level
  target := he.target
  sustain := unitOf_le sl
  increment := he.increment
  attack := samplesOf_le hc a
  decay := samplesOf_le hc d
  release := samplesOf_le hc rl
  stage := he.stage

theorem one_le_toNat {dur : BitVec 32} (hdur : dur ≠ 0#32) : (1 : Int) ≤ dur.toNat := by
  have := BitVec.toNat_ne.1 hdur
  simp only [BitVec.toNat_zero] at this
  omega

/-- The increment of a new ramp is the exact quotient: it is no longer than the distance, which fits. -/
theorem Envelope.beginRamp_increment_toInt {st : Stage} {tg : BitVec 31} {dur : BitVec 32}
    (hl : e.level.toNat ≤ Config.oneNat) (htg : tg.toNat ≤ Config.oneNat) (hdur : dur ≠ 0#32) :
    (e.beginRamp st tg dur).increment.toInt = divAway ((tg.toNat : Int) - e.level.toNat) dur.toNat ∧
    |divAway ((tg.toNat : Int) - e.level.toNat) dur.toNat| ≤ Config.one := by
  have hn := one_le_toNat hdur
  have hone := configOne_eq
  have honeNat := configOneNat_eq
  have hbound : |divAway ((tg.toNat : Int) - e.level.toNat) dur.toNat| ≤ Config.one := by
    rw [abs_divAway hn]
    refine (divAway_le_self (abs_nonneg _) hn).trans (abs_le.2 ?_)
    constructor <;> omega
  obtain ⟨hlo, hhi⟩ := abs_le.1 hbound
  exact ⟨toInt_ofInt32 (by omega) (by omega), hbound⟩

theorem Envelope.InRange.beginRamp (he : e.InRange c) {st : Stage} {tg : BitVec 31} {dur : BitVec 32}
    (htg : tg.toNat ≤ Config.oneNat) (hdur : dur ≠ 0#32) : (e.beginRamp st tg dur).InRange c where
  level := he.level
  target := htg
  sustain := he.sustain
  increment := by
    obtain ⟨hinc, hbound⟩ := Envelope.beginRamp_increment_toInt (st := st) he.level htg hdur
    rw [hinc]
    exact abs_le.1 hbound
  attack := he.attack
  decay := he.decay
  release := he.release

/-- A new ramp points at its target: its quotient has the sign of the distance (00_scope.md R16). -/
theorem Envelope.beginRamp_ramping (he : e.InRange c) {st : Stage} {tg : BitVec 31} {dur : BitVec 32}
    (htg : tg.toNat ≤ Config.oneNat) (hdur : dur ≠ 0#32) (hne : e.level ≠ tg) :
    (e.beginRamp st tg dur).Ramping := by
  obtain ⟨hinc, _⟩ := Envelope.beginRamp_increment_toInt (st := st) he.level htg hdur
  have hn := one_le_toNat hdur
  have hpos := divAway_pos_iff hn ((tg.toNat : Int) - e.level.toNat)
  have hneg := divAway_neg_iff hn ((tg.toNat : Int) - e.level.toNat)
  have hdist := BitVec.toNat_ne.1 hne
  refine ⟨hne, fun hzero => ?_, ?_⟩
  · rw [hzero, BitVec.toInt_zero] at hinc
    omega
  · rw [hinc, Envelope.beginRamp_level, Envelope.beginRamp_target, hpos]
    omega

/-- A stage entry is legal if the stage's completion is, with the level at the target, and the
stage allows its new ramp (42_envelope.md R195). -/
theorem Envelope.InRange.enter_ok (he : e.InRange c) {st : Stage} {tg : BitVec 31} {dur : BitVec 32}
    {done : Envelope → Envelope} (htg : tg.toNat ≤ Config.oneNat)
    (hdone : ∀ e' : Envelope, e'.InRange c → e'.level = tg → (done e').Ok c)
    (hstage : e.level ≠ tg → (e.beginRamp st tg dur).Ramping → (e.beginRamp st tg dur).StageOk) :
    (e.enter st tg dur done).Ok c := by
  rcases e.enter_cases st tg dur done with ⟨_, h⟩ | ⟨_, hl, h⟩ | ⟨hdur, hl, h⟩ <;> rw [h]
  · exact hdone _ (he.withLevel htg) rfl
  · exact hdone e he hl
  · exact (he.beginRamp htg hdur).ok (hstage hl (Envelope.beginRamp_ramping he htg hdur hl))

theorem zero_increment_mem : -Config.one ≤ (0#32).toInt ∧ (0#32).toInt ≤ Config.one := by decide

theorem Envelope.InRange.completeDecay (he : e.InRange c) : e.completeDecay.Ok c where
  level := he.level
  target := he.level
  sustain := he.sustain
  increment := zero_increment_mem
  attack := he.attack
  decay := he.decay
  release := he.release
  stage := ⟨rfl, rfl⟩

theorem Envelope.InRange.completeRelease (he : e.InRange c) (hl : e.level = 0#31) : e.completeRelease.Ok c where
  level := he.level
  target := Nat.zero_le _
  sustain := he.sustain
  increment := zero_increment_mem
  attack := he.attack
  decay := he.decay
  release := he.release
  stage := ⟨hl, rfl, rfl⟩

/-- The Decay entered from `ONE` ramps down: no other level is as high (42_envelope.md R196). -/
theorem Envelope.InRange.completeAttack (he : e.InRange c) (hl : e.level = levelOne) :
    e.completeAttack.Ok c := by
  refine he.enter_ok he.sustain (fun _ he' _ => he'.completeDecay) fun hne hramp => ⟨hramp, ?_⟩
  have hlevel : e.level.toNat = Config.oneNat := by rw [hl]; decide
  have hdist := BitVec.toNat_ne.1 hne
  have hsus := he.sustain
  rw [Envelope.beginRamp_target, Envelope.beginRamp_level]
  omega

theorem Envelope.InRange.gateOn (he : e.InRange c) : e.gateOn.Ok c :=
  he.enter_ok (by decide) (fun _ he' hl => he'.completeAttack hl) fun _ hramp => ⟨hramp, rfl⟩

theorem Envelope.InRange.enterRelease (he : e.InRange c) : e.enterRelease.Ok c :=
  he.enter_ok (by decide) (fun _ he' hl => he'.completeRelease hl) fun _ hramp => ⟨hramp, rfl⟩

theorem Envelope.Ok.gateOff (he : e.Ok c) : e.gateOff.Ok c := by
  rcases e.gateOff_cases with ⟨_, h⟩ | ⟨_, _, h⟩ <;> rw [h]
  · exact he
  · exact he.inRange.enterRelease

/-! ### The tick of a ramp -/

theorem Envelope.ramped_level_of_rising (hinc : 0 < e.increment.toInt) (htg : e.target.toNat ≤ Config.oneNat) :
    (e.ramped.level.toNat : Int) = min (e.level.toNat + e.increment.toInt) e.target.toNat := by
  have hone := configOne_eq
  have honeNat := configOneNat_eq
  have hval : e.rampValue = min (e.level.toNat + e.increment.toInt) e.target.toNat := by
    simp only [Envelope.rampValue]
    split_ifs <;> omega
  rw [Envelope.ramped_level, hval, clamp_of_mem (by omega) (by omega), toNat_ofInt31 (by omega) (by omega)]

theorem Envelope.ramped_level_of_falling (hinc : e.increment.toInt < 0) (hl : e.level.toNat ≤ Config.oneNat)
    (hlt : e.target.toNat < e.level.toNat) :
    (e.ramped.level.toNat : Int) = max (e.level.toNat + e.increment.toInt) e.target.toNat := by
  have hone := configOne_eq
  have honeNat := configOneNat_eq
  have hval : e.rampValue = max (e.level.toNat + e.increment.toInt) e.target.toNat := by
    simp only [Envelope.rampValue]
    split_ifs <;> omega
  rw [Envelope.ramped_level, hval, clamp_of_mem (by omega) (by omega), toNat_ofInt31 (by omega) (by omega)]

/-- One tick of a legal ramp goes toward the target and not past it (42_envelope.md R199). -/
theorem Envelope.ramped_level_mem (he : e.InRange c) (hramp : e.Ramping) :
    (0 < e.increment.toInt ∧ e.level.toNat < e.ramped.level.toNat ∧ e.ramped.level.toNat ≤ e.target.toNat) ∨
    (e.increment.toInt < 0 ∧ e.target.toNat ≤ e.ramped.level.toNat ∧ e.ramped.level.toNat < e.level.toNat) := by
  obtain ⟨hne, hnz, hdir⟩ := hramp
  have hdist := BitVec.toNat_ne.1 hne
  have hinc : e.increment.toInt ≠ 0 := fun h => hnz (BitVec.eq_of_toInt_eq h)
  by_cases hup : 0 < e.increment.toInt
  · have hlt := hdir.1 hup
    have hlev := Envelope.ramped_level_of_rising hup he.target
    exact .inl ⟨hup, by omega, by omega⟩
  · have hlt : e.target.toNat < e.level.toNat := by omega
    have hlev := Envelope.ramped_level_of_falling (by omega) he.level hlt
    exact .inr ⟨by omega, by omega, by omega⟩

theorem Envelope.InRange.ramped (he : e.InRange c) (hramp : e.Ramping) : e.ramped.InRange c := by
  refine he.withLevel ?_
  have hl := he.level
  have htg := he.target
  have hmem := Envelope.ramped_level_mem he hramp
  rw [Envelope.ramped_level] at hmem
  omega

/-- Short of the target, the ramp goes on in the direction it had. -/
theorem Envelope.ramped_ramping (he : e.InRange c) (hramp : e.Ramping) (hne : e.ramped.level ≠ e.target) :
    e.ramped.Ramping := by
  have hmem := Envelope.ramped_level_mem he hramp
  have hdist := BitVec.toNat_ne.1 hne
  obtain ⟨_, hnz, _⟩ := hramp
  refine ⟨hne, hnz, ?_⟩
  rw [Envelope.ramped_increment, Envelope.ramped_target]
  omega

theorem Envelope.ramped_falling (he : e.InRange c) (hramp : e.Ramping) (hlt : e.target.toNat < e.level.toNat)
    (hne : e.ramped.level ≠ e.target) : e.target.toNat < e.ramped.level.toNat := by
  have hmem := Envelope.ramped_level_mem he hramp
  have hdist := BitVec.toNat_ne.1 hne
  omega

/-- A ramp tick is legal if the stage's completion is, with the level at the target, and the stage
allows the shorter ramp (42_envelope.md R199). -/
theorem Envelope.InRange.rampTick_ok (he : e.InRange c) (hramp : e.Ramping)
    (hdone : e.ramped.InRange c → e.ramped.level = e.target → (e.ramped.complete e.stage).Ok c)
    (hstage : e.ramped.level ≠ e.target → e.ramped.Ramping → e.ramped.StageOk) : e.rampTick.2.Ok c := by
  have hr := he.ramped hramp
  obtain ⟨_, ⟨hland, h⟩ | ⟨hne, h⟩⟩ := e.rampTick_cases <;> rw [h]
  · exact hdone hr hland
  · exact hr.ok (hstage hne (Envelope.ramped_ramping he hramp hne))

theorem Envelope.stageOk_of_attack (hs : e.stage = .attack) :
    e.StageOk ↔ e.Ramping ∧ e.target = levelOne := by
  simp only [Envelope.StageOk, hs]

theorem Envelope.stageOk_of_decay (hs : e.stage = .decay) :
    e.StageOk ↔ e.Ramping ∧ e.target.toNat < e.level.toNat := by
  simp only [Envelope.StageOk, hs]

theorem Envelope.stageOk_of_release (hs : e.stage = .release) :
    e.StageOk ↔ e.Ramping ∧ e.target = 0#31 := by
  simp only [Envelope.StageOk, hs]

theorem Envelope.Ok.rampTick (he : e.Ok c) (hidle : e.stage ≠ .idle) (hsus : e.stage ≠ .sustain) :
    e.rampTick.2.Ok c := by
  have hr := he.inRange
  cases hs : e.stage with
  | idle => exact absurd hs hidle
  | sustain => exact absurd hs hsus
  | attack =>
    obtain ⟨hramp, htg⟩ := (Envelope.stageOk_of_attack hs).1 he.stage
    refine hr.rampTick_ok hramp (fun hr' hland => ?_) fun _ hramp' =>
      (Envelope.stageOk_of_attack (e := e.ramped) hs).2 ⟨hramp', htg⟩
    rw [hs]
    exact hr'.completeAttack (hland.trans htg)
  | decay =>
    obtain ⟨hramp, hlt⟩ := (Envelope.stageOk_of_decay hs).1 he.stage
    refine hr.rampTick_ok hramp (fun hr' _ => ?_) fun hne hramp' =>
      (Envelope.stageOk_of_decay (e := e.ramped) hs).2 ⟨hramp', Envelope.ramped_falling hr hramp hlt hne⟩
    rw [hs]
    exact hr'.completeDecay
  | release =>
    obtain ⟨hramp, htg⟩ := (Envelope.stageOk_of_release hs).1 he.stage
    refine hr.rampTick_ok hramp (fun hr' hland => ?_) fun _ hramp' =>
      (Envelope.stageOk_of_release (e := e.ramped) hs).2 ⟨hramp', htg⟩
    rw [hs]
    exact hr'.completeRelease (hland.trans htg)

theorem Envelope.Ok.tick (he : e.Ok c) : e.tick.2.Ok c := by
  rcases e.tick_cases with ⟨_, h⟩ | ⟨hidle, hsus, h⟩ <;> rw [h]
  · exact he
  · exact he.rampTick hidle hsus

end Envelope

/-! ### The legal values of the Voice (10_state.md R33 to R44) -/

section Voice
variable {c : Config} {v : Voice}

theorem Voice.Ok.trigger (hv : v.Ok c) (f : Word) : (v.trigger c f).Ok c :=
  ⟨hv.flt, hv.env.inRange.gateOn, hv.amplitude⟩

theorem Voice.Ok.release (hv : v.Ok c) : v.release.Ok c := ⟨hv.flt, hv.env.gateOff, hv.amplitude⟩

theorem Voice.Ok.afterSample (hv : v.Ok c) : v.afterSample.Ok c :=
  ⟨hv.flt.process _, hv.env.tick, hv.amplitude⟩

theorem Voice.Ok.derive (hc : c.Legal) (hv : v.Ok c) (b : Snapshot) : (v.derive c b).Ok c :=
  ⟨(hv.flt.setCutoff c _).setRes _, hv.env.setParams hc _ _ _ _, hv.amplitude⟩

theorem Voice.Ok.gateEdge (hv : v.Ok c) (f : Word) (now before : Bool) : (v.gateEdge c f now before).Ok c := by
  rcases v.gateEdge_cases c f now before with ⟨_, _, h⟩ | ⟨_, _, h⟩ | ⟨_, h⟩ <;> rw [h]
  · exact hv.trigger f
  · exact hv.release
  · exact hv

theorem VoiceEffect.ok (hc : c.Legal) (hv : v.Ok c) {i : Instr} {v' : Voice} (h : VoiceEffect c v i v') :
    v'.Ok c := by
  cases h with
  | amplitude d => exact ⟨hv.flt, hv.env, unitOf_le d⟩
  | noteOn f | trigger f => exact hv.trigger f
  | noteOff | release => exact hv.release
  | setFreq | setWave | advance => exact ⟨hv.flt, hv.env, hv.amplitude⟩
  | setCutoff w => exact ⟨hv.flt.setCutoff c w, hv.env, hv.amplitude⟩
  | setRes r => exact ⟨hv.flt.setRes r, hv.env, hv.amplitude⟩
  | process x => exact ⟨hv.flt.process x, hv.env, hv.amplitude⟩
  | setParams a d sl rl => exact ⟨hv.flt, hv.env.setParams hc a d sl rl, hv.amplitude⟩
  | gateOn => exact ⟨hv.flt, hv.env.inRange.gateOn, hv.amplitude⟩
  | gateOff => exact ⟨hv.flt, hv.env.gateOff, hv.amplitude⟩
  | tick => exact ⟨hv.flt, hv.env.tick, hv.amplitude⟩
  | sample => exact hv.afterSample

end Voice

/-! ### The bounds of the parameters (00_scope.md R8) -/

theorem one_le_bufFrames {c : Config} (hc : c.Legal) : 1 ≤ c.bufFrames := by
  obtain ⟨_, hlo, _⟩ := hc
  exact hlo

theorem bufFrames_le {c : Config} (hc : c.Legal) : c.bufFrames ≤ 32768 := by
  obtain ⟨_, _, hhi⟩ := hc
  exact hhi

/-! ### The output loop stays inside its bytes (20_memory.md R82, R85) -/

theorem bufBase_le (c : Config) (b : Buffer) : bufBase c b ≤ 2 * c.bufFrames := by
  cases b
  · exact le_rfl
  · exact Nat.zero_le _

theorem Memory.Ok.writeHalf {c : Config} {m : Memory} (hm : m.Ok c) {w : Nat} (hw : w < 4 * c.bufFrames)
    (v : Half) : (m.writeHalf w v).Ok c where
  form := Memory.wf_writeHalf hm.form
  inside a ha := by
    rw [Memory.read_writeHalf hm.form, if_neg (by omega), if_neg (by omega)]
    exact hm.inside a ha

/-! ### Every operation keeps a legal state legal (10_state.md R42, R47, R51, R55) -/

section State
variable {s : State}

/-- The sequencing registers are the parameters, the frame index and the scheduler; nothing else counts. -/
theorem SequencingOk.congr {t : State} (hs : SequencingOk s) (hcfg : t.cfg = s.cfg)
    (hidx : t.rend.frameIdx = s.rend.frameIdx) (hsched : t.sched = s.sched) : SequencingOk t where
  index := by rw [hidx, hcfg]; exact hs.index
  rest := by rw [hsched, hidx]; exact hs.rest
  record := by rw [hsched]; exact hs.record
  owned := by rw [hsched]; exact hs.owned

theorem State.Ok.frameOut (hs : s.Ok) : (frameOut s).Ok s.cfg := by
  have hidx := hs.sequencing.index
  have hbase := bufBase_le s.cfg s.sched.fillTarget
  exact (hs.out.writeHalf (by omega) _).writeHalf (by omega) _

theorem State.Ok.setObs (hs : s.Ok) (o : Observed) : (s.setObs o).Ok :=
  ⟨hs.cfg, hs.voice, hs.sequencing.congr rfl rfl rfl, hs.out, hs.txPos⟩

theorem State.Ok.setTrace (hs : s.Ok) (tr : List Signal) : (s.setTrace tr).Ok :=
  ⟨hs.cfg, hs.voice, hs.sequencing.congr rfl rfl rfl, hs.out, hs.txPos⟩

theorem State.Ok.setSnap (hs : s.Ok) (b : Banks) : (s.setSnap b).Ok :=
  ⟨hs.cfg, hs.voice, hs.sequencing.congr rfl rfl rfl, hs.out, hs.txPos⟩

theorem State.Ok.setVoice (hs : s.Ok) {v : Voice} (hv : v.Ok s.cfg) : (s.setVoice v).Ok :=
  ⟨hs.cfg, hv, hs.sequencing.congr rfl rfl rfl, hs.out, hs.txPos⟩

theorem State.Ok.setOut (hs : s.Ok) {m : Memory} (hm : m.Ok s.cfg) : (s.setOut m).Ok :=
  ⟨hs.cfg, hs.voice, hs.sequencing.congr rfl rfl rfl, hm, hs.txPos⟩

theorem State.Ok.setTxPos (hs : s.Ok) {p : Nat} (hp : p < 2 * s.cfg.bufFrames) : (s.setTxPos p).Ok :=
  ⟨hs.cfg, hs.voice, hs.sequencing.congr rfl rfl rfl, hs.out, hp⟩

theorem txNext_lt {c : Config} {p : Nat} (hc : c.Legal) (hp : p < 2 * c.bufFrames) :
    txNext c p < 2 * c.bufFrames := by
  have := one_le_bufFrames hc
  unfold txNext
  split <;> omega

theorem State.Ok.blockStart (hs : s.Ok) : (blockStart s).Ok :=
  ⟨hs.cfg, (hs.voice.derive hs.cfg _).gateEdge _ _ _, hs.sequencing.congr rfl rfl rfl, hs.out, hs.txPos⟩

/-- The end of a frame stays inside the block: the last index ends the fill (44_render_engine.md R246). -/
theorem State.Ok.endFrame (hs : s.Ok) (hbusy : s.sched.busy = true) : (endFrame s).Ok := by
  have hidx := hs.sequencing.index
  have hframes := bufFrames_le hs.cfg
  rcases endFrame_cases s with ⟨_, h⟩ | ⟨hmore, h⟩ <;> rw [h]
  · exact ⟨hs.cfg, hs.voice, ⟨one_le_bufFrames hs.cfg, fun _ => rfl,
      hs.sequencing.record, hs.sequencing.owned⟩, hs.out, hs.txPos⟩
  · have hnext : (s.rend.frameIdx + 1#15).toNat < s.cfg.bufFrames := by
      rw [BitVec.toNat_add, BitVec.toNat_ofNat]
      omega
    exact ⟨hs.cfg, hs.voice, ⟨hnext, fun hidle => absurd (hidle.symm.trans hbusy) Bool.false_ne_true,
      hs.sequencing.record, hs.sequencing.owned⟩, hs.out, hs.txPos⟩

theorem saturatingCount_pos (n : BitVec 32) : 0 < (saturatingCount n).toNat := by
  rw [saturatingCount, BitVec.toNat_ofNat]
  omega

theorem State.Ok.missDeadline (hs : s.Ok) (b : Buffer) : (missDeadline b s).Ok :=
  ⟨hs.cfg, hs.voice, ⟨hs.sequencing.index, hs.sequencing.rest,
    iff_of_true rfl (saturatingCount_pos _), fun h => Bool.noConfusion h⟩, hs.out, hs.txPos⟩

theorem State.Ok.startFill (hs : s.Ok) (b : Buffer) : (startFill b s).Ok :=
  State.Ok.blockStart ⟨hs.cfg, hs.voice, ⟨one_le_bufFrames hs.cfg,
    fun h => Bool.noConfusion h, hs.sequencing.record, fun _ => rfl⟩, hs.out, hs.txPos⟩

theorem State.Ok.takeEvent (hs : s.Ok) (b : Buffer) : (takeEvent b s).Ok := by
  rcases takeEvent_cases b s with ⟨_, h⟩ | ⟨_, h⟩ <;> rw [h]
  · exact hs.missDeadline b
  · exact hs.startFill b

theorem Memory.Ok.empty (c : Config) : Memory.Ok c [] := ⟨Memory.wf_nil, fun _ _ => rfl⟩

theorem Voice.atReset_ok {c : Config} : Voice.atReset.Ok c where
  flt := ⟨by decide, by decide, by decide⟩
  env := ⟨by decide, by decide, by decide, by decide, Nat.zero_le _, Nat.zero_le _, Nat.zero_le _,
    ⟨rfl, rfl, rfl⟩⟩
  amplitude := by decide

theorem State.resetWith_ok {c : Config} (hc : c.Legal) : (State.resetWith c).Ok where
  cfg := hc
  voice := Voice.atReset_ok
  sequencing := ⟨one_le_bufFrames hc, fun _ => rfl, iff_of_false Bool.false_ne_true (Nat.lt_irrefl 0), fun _ => rfl⟩
  out := .empty c
  txPos := Nat.mul_pos Nat.zero_lt_two (one_le_bufFrames hc)

/-- The step of the invariant: whatever an operation can make of a legal state is legal. -/
theorem Effect.ok (hs : s.Ok) {i : Instr} {t : State} (h : Effect s i t) : t.Ok := by
  cases h with
  | observe _ o => exact hs.setObs o
  | stage | publish => exact hs.setSnap _
  | voice o hv => exact (hs.setVoice (hv.ok hs.cfg hs.voice)).setObs o
  | ht => exact hs.takeEvent .B
  | tc => exact hs.takeEvent .A
  | startBlock => exact hs.blockStart
  | frame hbusy _ => exact ((hs.setVoice hs.voice.afterSample).setOut hs.frameOut).endFrame hbusy
  | reset => exact ((State.resetWith_ok hs.cfg).setTxPos hs.txPos |>.setObs s.obs).setTrace s.trace
  | transmit o tr hpos => exact ((hs.setObs o).setTxPos (txNext_lt hs.cfg hpos)).setTrace tr

end State

/-- Settles O55: each effect of an operation keeps a legal state legal. -/
theorem everyOperationKeepsLegality : Obligations.EveryOperationKeepsLegality := by
  intro i s t hs h
  exact (effect_of_exec h).ok hs

/-- Settles O56: a step runs an operation in the state with another trace, or only drops an entry. -/
theorem everyStepKeepsLegality : Obligations.EveryStepKeepsLegality := by
  intro s t hs h
  rcases step_cases s with ⟨i, u, hstep, tr, rfl⟩ | ⟨tr, hstep⟩ | ⟨why, hstep⟩ <;> rw [hstep] at h
  · exact (effect_of_exec h).ok (hs.setTrace tr)
  · exact Host.Outcome.next.inj h ▸ hs.setTrace tr
  · cases h

/-- Settles O54: the default parameters are one legal pair. -/
theorem resetIsLegal : Obligations.ResetIsLegal :=
  ⟨State.resetWith_ok (by decide), fun _ hc => State.resetWith_ok hc⟩

/-! ### Who writes the phase, the filter history, the banks and the loop (10_state.md R30, R35, R57, R62) -/

@[simp] theorem Voice.gateEdge_phase (c : Config) (f : Word) (now before : Bool) (v : Voice) :
    (v.gateEdge c f now before).osc.phase = v.osc.phase := by
  rcases v.gateEdge_cases c f now before with ⟨_, _, h⟩ | ⟨_, _, h⟩ | ⟨_, h⟩ <;> simp [h]

@[simp] theorem Voice.gateEdge_flt (c : Config) (f : Word) (now before : Bool) (v : Voice) :
    (v.gateEdge c f now before).flt = v.flt := by
  rcases v.gateEdge_cases c f now before with ⟨_, _, h⟩ | ⟨_, _, h⟩ | ⟨_, h⟩ <;> simp [h]

@[simp] theorem takeEvent_phase (b : Buffer) (s : State) :
    (takeEvent b s).voice.osc.phase = s.voice.osc.phase := by
  rcases takeEvent_cases b s with ⟨_, h⟩ | ⟨_, h⟩ <;> simp [h]

@[simp] theorem takeEvent_previousOutput (b : Buffer) (s : State) :
    (takeEvent b s).voice.flt.previousOutput = s.voice.flt.previousOutput := by
  rcases takeEvent_cases b s with ⟨_, h⟩ | ⟨_, h⟩ <;> simp [h]

theorem VoiceEffect.phase {c : Config} {v v' : Voice} {i : Instr} (h : VoiceEffect c v i v')
    (hsample : i ≠ .voiceRendersample) (hadv : i ≠ .oscAdvance) : v'.osc.phase = v.osc.phase := by
  cases h with
  | advance => exact absurd rfl hadv
  | sample => exact absurd rfl hsample
  | _ => rfl

theorem VoiceEffect.previousOutput {c : Config} {v v' : Voice} {i : Instr} (h : VoiceEffect c v i v')
    (hsample : i ≠ .voiceRendersample) (hproc : ∀ x, i ≠ .fltProcess x) :
    v'.flt.previousOutput = v.flt.previousOutput := by
  cases h with
  | process x => exact absurd rfl (hproc x)
  | sample => exact absurd rfl hsample
  | _ => rfl

/-- Settles O28: a Voice operation by its own effect; everything else leaves both registers. -/
theorem phaseAndHistoryRunFree : Obligations.PhaseAndHistoryRunFree := by
  intro i s t h hsample hframe hreset
  cases effect_of_exec h with
  | voice o hv => exact ⟨hv.phase hsample, hv.previousOutput hsample⟩
  | frame => exact absurd rfl hframe
  | reset => exact absurd rfl hreset
  | ht | tc => exact ⟨fun _ => takeEvent_phase _ s, fun _ => takeEvent_previousOutput _ s⟩
  | startBlock => simp
  | observe | stage | publish | transmit => exact ⟨fun _ => rfl, fun _ => rfl⟩

theorem publishedBank_eq (s : State) : publishedBank s = s.snap.published := rfl

/-- A host write alone changes a bank, and only a publish the index (10_state.md R57). -/
theorem Effect.snap {s t : State} {i : Instr} (h : Effect s i t) :
    t.snap = s.snap ∨ (∃ f d, i = stagingWrite f d ∧ t.snap = s.snap.setStaging (s.snap.staging.set f d)) ∨
    (∃ d, i = .writePublish d) ∨ i = .reset := by
  cases h with
  | stage f d => exact .inr (.inl ⟨f, d, rfl, rfl⟩)
  | publish d => exact .inr (.inr (.inl ⟨d, rfl⟩))
  | reset => exact .inr (.inr (.inr rfl))
  | _ => exact .inl (by simp)

/-- A host write's word, in the form 30_encoding.md R111 gives it. -/
theorem hostWord_true_eq (a : Offset) (d : Word) :
    hostWord true a d = 2 ^ 40 + a.toNat * 2 ^ 32 + d.toNat := by
  simp [hostWord]

/-- Settles O29: the banks by the only effects that write them. -/
theorem banksBelongToTheHost : Obligations.BanksBelongToTheHost := by
  intro i s t h hreset
  simp only [publishedBank_eq]
  rcases (effect_of_exec h).snap with hsnap | ⟨f, d, rfl, hsnap⟩ | ⟨d, rfl⟩ | rfl
  · exact ⟨fun _ => by simp [hsnap], fun hne => absurd hsnap hne⟩
  · obtain ⟨a, ha⟩ := encode_stagingWrite f d
    exact ⟨fun _ => by simp [hsnap], fun _ => ⟨a.toNat, d.toNat, hostWord_true_eq a d ▸ ha, a.isLt, d.isLt⟩⟩
  · exact ⟨fun hpub => absurd rfl (hpub d), fun _ =>
      ⟨0x14, d.toNat, hostWord_true_eq 0x14#8 d ▸ rfl, by decide, d.isLt⟩⟩
  · exact absurd rfl hreset

/-- Settles O30: of the effects, only a frame and reset write the loop, and none the parameters. -/
theorem loopIsWrittenByFramesOnly : Obligations.LoopIsWrittenByFramesOnly := by
  intro i s t h
  cases effect_of_exec h with
  | frame => exact ⟨by simp, fun hframe => absurd rfl hframe⟩
  | reset => exact ⟨rfl, fun _ hreset => absurd rfl hreset⟩
  | _ => simp

/-! ### Reset (10_state.md R64, R65) -/

theorem Memory.readHalf_nil (w : Nat) : Memory.readHalf [] w = 0#16 := by
  rw [Memory.readHalf, Memory.read_nil, Memory.read_nil]
  rfl

/-- Silence written to an empty loop lists no byte (20_memory.md R85). -/
theorem Memory.writeHalf_nil (w : Nat) : Memory.writeHalf [] w 0#16 = [] := rfl

/-- Settles O51: every field of the next state is the table's entry, and an empty loop reads as silence. -/
theorem resetLeavesTheResetTable : Obligations.ResetLeavesTheResetTable :=
  ⟨fun _ => ⟨_, rfl, rfl, rfl, rfl, rfl, rfl, rfl, Memory.readHalf_nil, rfl, rfl, rfl, rfl⟩, rfl, rfl⟩

/-- From 20 kHz on the coefficient is `ONE` at every legal rate: `2 * pi * 20000` exceeds each of them
(41_filter.md R172). -/
theorem coefficientOf_of_cutoffMax_le {c : Config} (hc : c.Legal) {cut : Word}
    (hcut : Config.cutoffMax ≤ cut.toNat) : coefficientOf c cut = 0x40000000#31 := by
  have hclamp : clampNat cut.toNat Config.cutoffMin Config.cutoffMax = Config.cutoffMax := by
    have hmin : Config.cutoffMin ≤ Config.cutoffMax := by decide
    rcases clampNat_cases cut.toNat Config.cutoffMin Config.cutoffMax with h | h | h <;> omega
  have hone : Config.oneNat ≤ Config.twoPiQ28 * Config.cutoffMax / (c.sampleRate * 16384) := by
    have hrate := hc.1
    rw [Nat.le_div_iff_mul_le (by omega), Config.oneNat, Config.twoPiQ28, Config.cutoffMax]
    omega
  have honeNat := configOneNat_eq
  apply BitVec.eq_of_toNat_eq
  rw [coefficientOf_toNat, hclamp, show (0x40000000#31).toNat = Config.oneNat from rfl]
  rcases clampNat_cases (Config.twoPiQ28 * Config.cutoffMax / (c.sampleRate * 16384)) 1 Config.oneNat
    with h | h | h <;> omega

theorem samplesOf_zero (c : Config) : samplesOf c 0#32 = 0#32 := by
  simp [samplesOf]

theorem Voice.derive_atReset {c : Config} (hc : c.Legal) :
    Voice.atReset.derive c Snapshot.atReset = Voice.atReset := by
  have hcut : coefficientOf c 0x4E200000#32 = 0x40000000#31 :=
    coefficientOf_of_cutoffMax_le hc (by decide)
  have hderive : Voice.atReset.derive c Snapshot.atReset = { Voice.atReset with
      flt.cutoffCoefficient := coefficientOf c 0x4E200000#32
      env.attackTime := samplesOf c 0#32
      env.decayTime := samplesOf c 0#32
      env.releaseTime := samplesOf c 0#32 } := rfl
  rw [hderive, hcut, samplesOf_zero]
  rfl

theorem Voice.sample_atReset : Voice.atReset.sample = 0 := by decide

theorem Voice.afterSample_atReset : Voice.atReset.afterSample = Voice.atReset := by decide

/-- With Voice, banks and previous gate as after reset, a block start changes nothing
(10_state.md R65). -/
theorem blockStart_eq_self {s : State} (hc : s.cfg.Legal) (hvoice : s.voice = .atReset)
    (hsnap : s.snap = .atReset) (hgate : s.rend.prevGate = false) : blockStart s = s := by
  have hv : (blockStart s).voice = s.voice := by
    rw [blockStart_voice, hvoice, hsnap, hgate]
    exact Voice.derive_atReset hc
  have hr : (blockStart s).rend = s.rend := by
    rw [blockStart_rend, hsnap]
    exact congrArg (Render.mk s.rend.frameIdx) hgate.symm
  calc blockStart s = (s.setVoice (blockStart s).voice).setRend (blockStart s).rend := rfl
    _ = s := by rw [hv, hr]; rfl

/-- The reset state with buffer B the one to fill, a fill running or not, frame `k` next. -/
def silentFill (c : Config) (busy : Bool) (k : Nat) : State :=
  { State.resetWith c with
    sched := { Scheduler.atReset with own := .B, busy := busy, fillTarget := .B }
    rend := { frameIdx := BitVec.ofNat 15 k, prevGate := false } }

theorem step_reset_ht {c : Config} (hc : c.Legal) :
    step { State.resetWith c with trace := [.event 1] } = .next (silentFill c true 0) :=
  calc step { State.resetWith c with trace := [.event 1] }
      = exec .schedHt (State.resetWith c) := rfl
    _ = .next (blockStart (silentFill c true 0)) := rfl
    _ = .next (silentFill c true 0) := by rw [blockStart_eq_self hc rfl rfl rfl]

section Silence
variable {c : Config} {k : Nat}

theorem silentFill_frameIdx (hc : c.Legal) (hk : k < c.bufFrames) (busy : Bool) :
    (silentFill c busy k).rend.frameIdx.toNat = k :=
  Nat.mod_eq_of_lt (Nat.lt_of_lt_of_le hk (bufFrames_le hc))

/-- A frame of the reset Voice writes silence, and so only counts the frame. -/
theorem step_silentFill (hc : c.Legal) (hk : k < c.bufFrames) :
    step (silentFill c true k) = .next (endFrame (silentFill c true k)) := by
  have hstep : step (silentFill c true k) = execRenderFrame (silentFill c true k) := rfl
  rcases execRenderFrame_cases (silentFill c true k) with ⟨hbusy, _⟩ | ⟨_, hout, _⟩ | ⟨_, _, h⟩
  · exact absurd hbusy Bool.noConfusion
  · exact absurd (silentFill_frameIdx hc hk true ▸ hout) (Nat.not_le.2 hk)
  · rw [hstep, h]
    have hsilent : pcmWord (pcm (silentFill c true k).voice.sample) = 0#16 := by
      rw [show (silentFill c true k).voice.sample = 0 from Voice.sample_atReset]
      decide
    rw [hsilent, show (silentFill c true k).voice.afterSample = .atReset from Voice.afterSample_atReset,
      show (silentFill c true k).out = [] from rfl, Memory.writeHalf_nil, Memory.writeHalf_nil]
    rfl

theorem endFrame_silentFill (hc : c.Legal) (hk : k < c.bufFrames) : endFrame (silentFill c true k) =
    if k + 1 = c.bufFrames then silentFill c false 0 else silentFill c true (k + 1) := by
  rcases endFrame_cases (silentFill c true k) with ⟨hlast, h⟩ | ⟨hmore, h⟩ <;> rw [h]
  · rw [silentFill_frameIdx hc hk] at hlast
    exact (if_pos hlast).symm
  · rw [silentFill_frameIdx hc hk] at hmore
    refine .trans ?_ (if_neg hmore).symm
    rw [silentFill, silentFill, BitVec.ofNat_add]

theorem runSteps_succ_of_next {s t : State} (h : step s = .next t) (n : Nat) :
    runSteps (n + 1) s = runSteps n t := by
  simp only [runSteps, h]

/-- The rest of a silent block, by induction on the frames still to come. -/
theorem runSteps_silentFill (hc : c.Legal) {n : Nat} (hn : k + (n + 1) = c.bufFrames) :
    runSteps (n + 1) (silentFill c true k) = .next (silentFill c false 0) := by
  induction n generalizing k with
  | zero =>
    rw [runSteps_succ_of_next (step_silentFill hc (by omega)), endFrame_silentFill hc (by omega), if_pos hn]
    rfl
  | succ n ih =>
    rw [runSteps_succ_of_next (step_silentFill hc (by omega)), endFrame_silentFill hc (by omega),
      if_neg (by omega)]
    exact ih (by omega)

end Silence

/-- Settles O53: the event starts a silent fill, and its frames run to the end of the block. -/
theorem resetBlockIsSilent : Obligations.ResetBlockIsSilent := by
  intro c hc
  refine ⟨congrArg Host.Outcome.next (blockStart_eq_self hc rfl rfl rfl), silentFill c false 0, ?_, rfl, rfl,
    Memory.readHalf_nil⟩
  obtain ⟨n, hn⟩ := Nat.exists_eq_add_of_le' (one_le_bufFrames hc)
  rw [Nat.add_comm 1, runSteps_succ_of_next (step_reset_ht hc), hn]
  exact runSteps_silentFill hc (by omega)

end Sys2Proof.Machine

/-! The proof of the wavetable ROM family (11_wavetable_rom.md R74). The literal table is consulted row by
row, as it is printed: for its two symmetries, for the differences of the first quarter and for two sums
over the first half. The rest of the cycle follows by the symmetries. -/

namespace Sys2Proof.Machine

/-! ### Sixteen entries to a row -/

/-- A fact about the first `n` rows is checked entry by entry within each row. -/
theorem forall_lt_of_forall_row {P : Nat → Prop} {n : Nat} (h : ∀ r < n, ∀ j < 16, P (16 * r + j))
    {i : Nat} (hi : i < 16 * n) : P i := by
  have hrow := h (i / 16) (by omega) (i % 16) (by omega)
  rwa [Nat.div_add_mod] at hrow

theorem sum_range_add (f : Nat → Int) (m n : Nat) :
    ((List.range (m + n)).map f).sum =
      ((List.range m).map f).sum + ((List.range n).map fun i => f (m + i)).sum := by
  rw [List.range_add, List.map_append, List.sum_append, List.map_map]
  rfl

/-- The sum over the first `n` rows, by the sums of the rows. -/
theorem sum_range_rows (f : Nat → Int) (n : Nat) :
    ((List.range (16 * n)).map f).sum =
      ((List.range n).map fun r => ((List.range 16).map fun j => f (16 * r + j)).sum).sum := by
  induction n with
  | zero => rfl
  | succ n ih =>
    rw [Nat.mul_succ, sum_range_add, ih, sum_range_add, List.range_one, List.map_singleton,
      List.sum_singleton, Nat.add_zero]

/-! ### The symmetries of the cycle -/

theorem rom_mirror {i : Nat} (hi : i ≤ 256) : rom (512 - i) = rom i := by
  have hrows : ∀ r < 16, ∀ j < 16, rom (512 - (16 * r + j)) = rom (16 * r + j) := by decide
  rcases Nat.lt_or_eq_of_le hi with hlt | rfl
  · exact forall_lt_of_forall_row (P := fun i => rom (512 - i) = rom i) hrows hlt
  · rfl

theorem rom_half_add {i : Nat} (hi : i < 512) : rom (512 + i) = -rom i := by
  have hrows : ∀ r < 32, ∀ j < 16, rom (512 + (16 * r + j)) = -rom (16 * r + j) := by decide
  exact forall_lt_of_forall_row (P := fun i => rom (512 + i) = -rom i) hrows hi

/-- The second half of the cycle negates the first, the end of the cycle being its start. -/
theorem rom_half_add_mod {i : Nat} (hi : i ≤ 512) : rom ((512 + i) % 1024) = -rom i := by
  rcases Nat.lt_or_eq_of_le hi with hlt | rfl
  · rw [Nat.mod_eq_of_lt (by omega), rom_half_add hlt]
  · rfl

/-! ### Sums over the cycle -/

/-- Each entry of the first half stands in the sum beside its negation. -/
theorem sum_rom (f : Int → Int) :
    ((List.range 1024).map fun i => f (rom i)).sum =
      ((List.range 512).map fun i => f (rom i)).sum + ((List.range 512).map fun i => f (-rom i)).sum := by
  have hneg : ∀ i ∈ List.range 512, f (rom (512 + i)) = f (-rom i) := fun i hi =>
    congrArg f (rom_half_add (List.mem_range.1 hi))
  rw [show 1024 = 512 + 512 from rfl, sum_range_add, List.map_congr_left hneg]

theorem sum_rom_of_even {f : Int → Int} (hf : ∀ x, f (-x) = f x) :
    ((List.range 1024).map fun i => f (rom i)).sum = 2 * ((List.range 512).map fun i => f (rom i)).sum := by
  rw [sum_rom]
  simp only [hf]
  exact (Int.two_mul _).symm

theorem sum_rom_eq_zero : ((List.range 1024).map rom).sum = 0 := by
  rw [sum_rom fun x => x, ← List.sum_map_add]
  simp only [add_neg_cancel, List.map_const', List.sum_replicate, smul_zero]

theorem sum_abs_rom : ((List.range 1024).map fun i => |rom i|).sum = 21360666 := by
  have hhalf : ((List.range 512).map fun i => |rom i|).sum = 10680333 := by
    rw [sum_range_rows _ 32]
    decide
  rw [sum_rom_of_even abs_neg, hhalf]
  rfl

theorem sum_sq_rom : ((List.range 1024).map fun i => rom i * rom i).sum = 549720852006 := by
  have hhalf : ((List.range 512).map fun i => rom i * rom i).sum = 274860426003 := by
    rw [sum_range_rows _ 32]
    decide
  rw [sum_rom_of_even (f := fun x => x * x) fun x => neg_mul_neg x x, hhalf]
  rfl

/-! ### Neighbours -/

theorem abs_rom_succ_sub_le_of_lt_quarter {i : Nat} (hi : i < 256) : |rom (i + 1) - rom i| ≤ 201 := by
  have hrows : ∀ r < 16, ∀ j < 16, |rom (16 * r + j + 1) - rom (16 * r + j)| ≤ 201 := by decide
  exact forall_lt_of_forall_row (P := fun i => |rom (i + 1) - rom i| ≤ 201) hrows hi

/-- The second quarter runs through the neighbours of the first in the opposite order. -/
theorem abs_rom_succ_sub_le_of_lt_half {i : Nat} (hi : i < 512) : |rom (i + 1) - rom i| ≤ 201 := by
  rcases Nat.lt_or_ge i 256 with hq | hq
  · exact abs_rom_succ_sub_le_of_lt_quarter hq
  · obtain ⟨k, hk, rfl⟩ : ∃ k < 256, i = 512 - (k + 1) := ⟨511 - i, by omega, by omega⟩
    rw [show 512 - (k + 1) + 1 = 512 - k by omega, rom_mirror (by omega), rom_mirror (by omega), abs_sub_comm]
    exact abs_rom_succ_sub_le_of_lt_quarter hk

/-- The second half, the wrap to the first entry included, negates the differences of the first. -/
theorem abs_rom_succ_mod_sub_le {i : Nat} (hi : i < 1024) : |rom ((i + 1) % 1024) - rom i| ≤ 201 := by
  rcases Nat.lt_or_ge i 512 with hh | hh
  · rw [Nat.mod_eq_of_lt (by omega)]
    exact abs_rom_succ_sub_le_of_lt_half hh
  · obtain ⟨k, rfl⟩ := Nat.exists_eq_add_of_le hh
    rw [Nat.add_assoc, rom_half_add_mod (by omega), rom_half_add (by omega), neg_sub_neg, abs_sub_comm]
    exact abs_rom_succ_sub_le_of_lt_half (by omega)

/-- Settles O34: the quarter entries are read off the table; the rest is the symmetries and what they give. -/
theorem romHasTheDocumentedProperties : Obligations.RomHasTheDocumentedProperties :=
  ⟨rfl, rfl, rfl, rfl, fun _ => rom_mirror, fun _ hi => rom_half_add_mod (Nat.le_of_lt hi), sum_rom_eq_zero,
    sum_abs_rom, sum_sq_rom, fun _ => abs_rom_succ_mod_sub_le⟩

end Sys2Proof.Machine

/-! The proofs of the encoding family: the rows of the opcode table and what they leave reserved
(30_encoding.md R112, R118, R137), decoding and encoding (R110 to R113, R138), the amplitude register (R121). -/

namespace Sys2Proof.Machine

/-! ### The rows of the host part of the opcode table -/

/-- The rows among which a transaction of the direction `we` is looked up. -/
def hostRows (we : Bool) : List HostRow := if we then writeRows else readRows

/-- What a row owes to every data word: an operation of the row's own pair that is well formed, is
encoded with no data bit dropped, and runs in every state. -/
structure RowSound (we : Bool) (row : HostRow) : Prop where
  direction : row.we = we
  wf : ∀ data, (row.make data).wf = true
  encodes : ∀ data, encode (row.make data) = some (.host (hostWord we row.addr data))
  runs : ∀ data s, ∃ t, exec (row.make data) s = .next t

theorem rowSound_of_mem {we : Bool} {row : HostRow} (h : row ∈ hostRows we) : RowSound we row := by
  cases we with
  | false =>
    change row ∈ readRows at h
    fin_cases h <;> exact ⟨rfl, fun _ => rfl, fun _ => rfl, fun _ _ => ⟨_, rfl⟩⟩
  | true =>
    change row ∈ writeRows at h
    fin_cases h <;> exact ⟨rfl, fun _ => rfl, fun _ => rfl, fun _ _ => ⟨_, rfl⟩⟩

/-- The lookup answers a row of the pair, or a reserved access where no row has the pair. -/
theorem pickRow_cases (we : Bool) (addr : Offset) (data : Word) (rows : List HostRow) :
    (∃ row ∈ rows, row.addr = addr ∧ pickRow we addr data rows = row.make data) ∨
    ((∀ row ∈ rows, ¬ (row.we = we ∧ row.addr = addr)) ∧
      pickRow we addr data rows = .reservedAccess we addr data) := by
  induction rows with
  | nil => exact .inr ⟨List.forall_mem_nil _, rfl⟩
  | cons row rest ih =>
    by_cases hrow : row.we = we ∧ row.addr = addr
    · exact .inl ⟨row, List.mem_cons_self, hrow.2, if_pos hrow⟩
    · rw [pickRow, if_neg hrow]
      rcases ih with ⟨found, hmem, hfound⟩ | ⟨hnone, heq⟩
      · exact .inl ⟨found, List.mem_cons_of_mem _ hmem, hfound⟩
      · exact .inr ⟨List.forall_mem_cons.2 ⟨hrow, hnone⟩, heq⟩

/-! ### The reserved pairs (30_encoding.md R137) -/

theorem isReadable_iff (a : Offset) : Offset.isReadable a = true ↔
    a = 0x00#8 ∨ a = 0x04#8 ∨ a = 0x08#8 ∨ (0x20 ≤ a.toNat ∧ a.toNat ≤ 0x40 ∧ a.toNat % 4 = 0) ∨
      (0x60 ≤ a.toNat ∧ a.toNat ≤ 0x80 ∧ a.toNat % 4 = 0) := by
  simp [Offset.isReadable, Offset.isStaging, Offset.isPublished, or_assoc, and_assoc]

theorem isWritable_iff (a : Offset) : Offset.isWritable a = true ↔
    a = 0x08#8 ∨ a = 0x0C#8 ∨ a = 0x10#8 ∨ a = 0x14#8 ∨
      (0x20 ≤ a.toNat ∧ a.toNat ≤ 0x40 ∧ a.toNat % 4 = 0) := by
  simp [Offset.isWritable, Offset.isStaging, or_assoc, and_assoc]

theorem isReserved_false_iff (a : Offset) : isReserved false a = true ↔ ¬ Offset.isReadable a = true := by
  simp [isReserved]

theorem isReserved_true_iff (a : Offset) : isReserved true a = true ↔ ¬ Offset.isWritable a = true := by
  simp [isReserved]

theorem isReserved_iff_no_row (we : Bool) (a : Offset) :
    isReserved we a = true ↔ ∀ row ∈ hostRows we, row.addr ≠ a := by
  cases we with
  | false =>
    change _ ↔ ∀ row ∈ readRows, row.addr ≠ a
    simp only [isReserved_false_iff, isReadable_iff, readRows, List.forall_mem_cons, List.not_mem_nil,
      ne_eq, false_imp_iff, implies_true, and_true]
    bv_omega
  | true =>
    change _ ↔ ∀ row ∈ writeRows, row.addr ≠ a
    simp only [isReserved_true_iff, isWritable_iff, writeRows, List.forall_mem_cons, List.not_mem_nil,
      ne_eq, false_imp_iff, implies_true, and_true]
    bv_omega

/-- The list of R137. -/
theorem isReserved_iff_listed (we : Bool) (a : Offset) : isReserved we a = true ↔
    (a = 0x18#8 ∨ a = 0x1C#8 ∨ (0x44 ≤ a.toNat ∧ a.toNat ≤ 0x5C) ∨ 0x84 ≤ a.toNat ∨ a.toNat % 4 ≠ 0
      ∨ (we = true ∧ (a = 0x00#8 ∨ a = 0x04#8 ∨ (0x60 ≤ a.toNat ∧ a.toNat ≤ 0x80)))
      ∨ (we = false ∧ (a = 0x0C#8 ∨ a = 0x10#8 ∨ a = 0x14#8))) := by
  cases we with
  | false =>
    simp only [isReserved_false_iff, isReadable_iff, reduceCtorEq, false_and, true_and, false_or]
    bv_omega
  | true =>
    simp only [isReserved_true_iff, isWritable_iff, reduceCtorEq, false_and, true_and, or_false]
    bv_omega

/-! ### The operation of a transaction (30_encoding.md R112, R138) -/

/-- A transaction is the operation of a row of its pair, or a reserved access. -/
theorem decodeFields_cases (we : Bool) (addr : Offset) (data : Word) :
    (∃ row ∈ hostRows we, row.addr = addr ∧ decodeFields we addr data = row.make data) ∨
    (isReserved we addr = true ∧ decodeFields we addr data = .reservedAccess we addr data) := by
  rcases pickRow_cases we addr data (hostRows we) with hrow | ⟨hnone, heq⟩
  · exact .inl hrow
  · exact .inr ⟨(isReserved_iff_no_row we addr).2 fun row hmem haddr =>
      hnone row hmem ⟨(rowSound_of_mem hmem).direction, haddr⟩, heq⟩

theorem wf_decodeFields (we : Bool) (addr : Offset) (data : Word) : (decodeFields we addr data).wf = true := by
  rcases decodeFields_cases we addr data with ⟨row, hmem, _, heq⟩ | ⟨hres, heq⟩ <;> rw [heq]
  · exact (rowSound_of_mem hmem).wf data
  · exact hres

theorem encode_decodeFields (we : Bool) (addr : Offset) (data : Word) :
    encode (decodeFields we addr data) = some (.host (hostWord we addr data)) := by
  rcases decodeFields_cases we addr data with ⟨row, hmem, rfl, heq⟩ | ⟨_, heq⟩ <;> rw [heq]
  · exact (rowSound_of_mem hmem).encodes data
  · rfl

theorem exec_decodeFields (we : Bool) (addr : Offset) (data : Word) (s : State) :
    ∃ t, exec (decodeFields we addr data) s = .next t := by
  rcases decodeFields_cases we addr data with ⟨row, hmem, _, heq⟩ | ⟨_, heq⟩ <;> rw [heq]
  · exact (rowSound_of_mem hmem).runs data s
  · exact ⟨_, rfl⟩

theorem decodeFields_eq_reservedAccess_iff (we : Bool) (addr : Offset) (data : Word) :
    decodeFields we addr data = .reservedAccess we addr data ↔ isReserved we addr = true := by
  constructor
  · intro heq
    have hwf := wf_decodeFields we addr data
    rwa [heq] at hwf
  · intro hres
    rcases decodeFields_cases we addr data with ⟨row, hmem, haddr, _⟩ | ⟨_, heq⟩
    · exact absurd haddr ((isReserved_iff_no_row we addr).1 hres row hmem)
    · exact heq

/-! ### Decoding what was encoded -/

/-- An operation encoded as a transaction is read back where the lookup of its pair answers it. -/
theorem decode_of_encode_host {i : Instr} {sig : Signal} {we : Bool} {addr : Offset} {data : Word}
    (henc : encode i = some (.host (hostWord we addr data))) (hrow : decodeFields we addr data = i)
    (h : encode i = some sig) : decode sig = .instr i [] := by
  rw [henc, Option.some.injEq] at h
  rw [← h, decode_hostWord, hrow]

/-- Settles O6: the register accesses are rows of their pairs, a well-formed reserved access has no row,
and every other entry names its operation. -/
theorem decodeOfEncodeIsTheInstruction : Obligations.DecodeOfEncodeIsTheInstruction := by
  intro i sig hwf h
  cases i with
  | reservedAccess we addr data =>
    exact decode_of_encode_host rfl ((decodeFields_eq_reservedAccess_iff we addr data).2 hwf) h
  | schedHt | schedTc | renderFrame | reset | txFrame =>
    cases h
    rfl
  | renderBlockstart | oscSetfreq | oscSetwave | oscAdvance | fltSetcutoff | fltSetres | fltProcess
  | envSetparams | envGateon | envGateoff | envTick | voiceTrigger | voiceRelease | voiceRendersample =>
    cases h
  | _ data => exact decode_of_encode_host rfl rfl h

/-- Settles O7: a 41-bit word is the word of its three fields, and every event is taken. -/
theorem everyHostWordIsAnInstruction : Obligations.EveryHostWordIsAnInstruction := by
  constructor
  · intro x hx
    rw [← hostWord_fields hx]
    exact ⟨_, wf_decodeFields _ _ _, decode_hostWord _ _ _, encode_decodeFields _ _ _, exec_decodeFields _ _ _⟩
  · intro e he
    match e, he with
    | 0, _ => exact .inl ⟨rfl, rfl⟩
    | 1, _ => exact .inr ⟨.schedHt, [], rfl, fun _ => ⟨_, rfl⟩⟩
    | 2, _ => exact .inr ⟨.schedTc, [], rfl, fun _ => ⟨_, rfl⟩⟩
    | 3, _ => exact .inr ⟨.schedHt, [.event 2], rfl, fun _ => ⟨_, rfl⟩⟩

/-- Settles O8: a pair without a row is a pair of R137's list. -/
theorem reservedAccessesHaveNoEffect : Obligations.ReservedAccessesHaveNoEffect := by
  refine ⟨fun we addr data => ?_, fun _ _ _ => ⟨rfl, rfl⟩⟩
  change decode (.host (hostWord we addr data)) = _ ↔ _
  rw [decode_hostWord, Decoded.instr.injEq, and_iff_left rfl, decodeFields_eq_reservedAccess_iff,
    isReserved_iff_listed]

/-- Settles O4: each word is the encoding of the access it must decode to. -/
theorem specWordsDecode : Obligations.SpecWordsDecode := by
  refine ⟨fun data => ?registerMap, ?vectors⟩
  case registerMap => and_intros <;> exact decodeOfEncodeIsTheInstruction _ _ rfl rfl
  case vectors => and_intros <;> exact decodeOfEncodeIsTheInstruction _ _ rfl rfl

/-- Settles O5: the decoder's cases for the event lines. -/
theorem eventWordsDecode : Obligations.EventWordsDecode := by
  refine ⟨rfl, rfl, rfl, rfl, fun e he => ?_⟩
  obtain ⟨k, rfl⟩ := Nat.exists_eq_add_of_le' he
  rfl

/-! ### A presented table word (30_encoding.md R110) -/

theorem decode_of_decodeTableWord {nbits w : Nat} {i : Instr} (h : decodeTableWord nbits w = some i) :
    ∃ after, decode (wordSignal nbits w) = .instr i after := by
  unfold decodeTableWord at h
  cases hdec : decode (wordSignal nbits w) <;> rw [hdec] at h <;> cases h
  case instr after => exact ⟨after, rfl⟩

/-- Settles O3: the presented word is the head of the trace. -/
theorem presentedWordRunsNext : Obligations.PresentedWordRunsNext := by
  intro s nbits w i h
  obtain ⟨after, hdec⟩ := decode_of_decodeTableWord h
  exact ⟨after, hdec, step_of_fetch_run (fetch_of_decode_instr (s := s.withFetchWord nbits w) rfl hdec)⟩

/-! ### The amplitude register (30_encoding.md R121) -/

theorem unitOf_eq_ite (p : Word) :
    unitOf p = if p.toNat ≤ 0x40000000 then BitVec.ofNat 31 p.toNat else 0x40000000#31 := by
  rw [unitOf, Config.oneNat]
  split
  · rw [min_eq_left ‹_›]
  · rw [min_eq_right (by omega)]

theorem setWidth_eq_zero_append (v : BitVec 31) : v.setWidth 32 = 0#1 ++ v := by
  rw [BitVec.setWidth_eq_append (by decide)]
  rfl

/-- Settles O11: the write is the clamp, the read widens the register by one zero bit. -/
theorem amplitudeWritesAndReads : Obligations.AmplitudeWritesAndReads := by
  refine ⟨fun data s => ⟨?write, ?read⟩, rfl⟩
  case write => rw [← unitOf_eq_ite]; rfl
  case read => rw [← setWidth_eq_zero_append]; rfl

end Sys2Proof.Machine

/-! The proofs of the oscillator family: the three operations (40_oscillator.md R152, R153, R161), and how
the waves move with the phase (R155, R164). The sine is taken segment by segment, a segment of the table
holding both its ends, so that the last step of one needs no look at the next. -/

namespace Sys2Proof.Machine

/-! ### The registers of the oscillator (40_oscillator.md R152, R153) -/

/-- The quotient of a positive pattern is the same on its unsigned reading. -/
theorem incrementOf_eq_specIncrement (c : Config) (f : Word) : incrementOf c f = specIncrement c f := by
  rw [incrementOf, specIncrement]
  split
  · rfl
  · have hf : f.toInt = (f.toNat : Int) := by
      have hcond := BitVec.toInt_eq_toNat_cond f
      split at hcond <;> omega
    rw [hf, ← BitVec.ofInt_natCast, Int.natCast_ediv, Nat.cast_mul]
    rfl

theorem waveformOf_of_four_le {w : Word} (hw : 4 ≤ w.toNat) : waveformOf w = .sine := by
  rw [waveformOf, if_neg, if_neg, if_neg] <;> bv_omega

/-- Settles O31: the increment is the specification's. -/
theorem oscSetfreqSetsTheIncrement : Obligations.OscSetfreqSetsTheIncrement := by
  intro f s
  change exec _ s = .next { s with voice := { s.voice with osc := { s.voice.osc with
    phaseIncrement := specIncrement s.cfg f } } }
  rw [← incrementOf_eq_specIncrement]
  rfl

/-- Settles O32: each of the four selectors, and everything above them. -/
theorem oscSetwaveSelectsOrFallsBackToSine : Obligations.OscSetwaveSelectsOrFallsBackToSine := by
  intro w s
  change Host.Outcome.next (s.setOsc { s.voice.osc with waveform := waveformOf w }) = _
  rcases Nat.lt_or_ge w.toNat 4 with hlt | hge
  · have hw : w = 0#32 ∨ w = 1#32 ∨ w = 2#32 ∨ w = 3#32 := by bv_omega
    rcases hw with rfl | rfl | rfl | rfl <;> rfl
  · obtain ⟨n, hn⟩ := Nat.exists_eq_add_of_le' hge
    rw [waveformOf_of_four_le hge, hn]
    rfl

/-! ### The four waves (40_oscillator.md R157 to R160) -/

/-- The point `f` phase units after an entry `a` of the table, on the line to the next entry `b`. -/
def interpolate (a b f : Int) : Int := a * 32768 + ((b - a) * f + 64) / 128

theorem wave_sine (p : BitVec 32) : wave .sine p =
    interpolate (rom (p.toNat / 4194304)) (rom ((p.toNat / 4194304 + 1) % 1024)) (p.toNat % 4194304 : Nat) :=
  congrArg (_ + ·) (rnd7_eq _)

theorem wave_saw (p : BitVec 32) : wave .saw p = (p.toNat : Int) / 2 - 1073741824 := rfl

theorem wave_square (p : BitVec 32) :
    wave .square p = if p.toNat < 2147483648 then 1073741824 else -1073741824 := rfl

theorem wave_triangle (p : BitVec 32) : wave .triangle p =
    if p.toNat < 2147483648 then (p.toNat : Int) - 1073741824 else 3221225472 - (p.toNat : Int) := rfl

theorem exec_oscAdvance (s : State) : exec .oscAdvance s = .next ((s.setOsc s.voice.osc.step).returns
    (wave s.voice.osc.waveform (s.voice.osc.phase + s.voice.osc.phaseIncrement))) := rfl

/-- Settles O33: the formula of each wave, at the phase the step leaves. -/
theorem oscAdvanceReturnsTheWaveAtTheNewPhase : Obligations.OscAdvanceReturnsTheWaveAtTheNewPhase := by
  rintro s p rfl
  rw [exec_oscAdvance]
  cases s.voice.osc.waveform with
  | sine => rw [wave_sine]; rfl
  | saw => rfl
  | square => rfl
  | triangle => rfl

/-! ### A segment of the sine -/

@[simp] theorem interpolate_start (a b : Int) : interpolate a b 0 = a * 32768 := by
  rw [interpolate, mul_zero]
  omega

@[simp] theorem interpolate_end (a b : Int) : interpolate a b 4194304 = b * 32768 := by
  rw [interpolate]
  omega

/-- A segment lies between its ends (40_oscillator.md R157 (b)): 2^22 times the exact point is the mean
of the ends with weights `2^22 - f` and `f`, and rounding does not leave an interval with integer ends. -/
theorem interpolate_mem {lo hi a b f : Int} (ha : lo ≤ a ∧ a ≤ hi) (hb : lo ≤ b ∧ b ≤ hi) (hf : 0 ≤ f)
    (hf' : f ≤ 4194304) : lo * 32768 ≤ interpolate a b f ∧ interpolate a b f ≤ hi * 32768 := by
  have hlo_a := mul_le_mul_of_nonneg_right ha.1 (sub_nonneg.2 hf')
  have hlo_b := mul_le_mul_of_nonneg_right hb.1 hf
  have hhi_a := mul_le_mul_of_nonneg_right ha.2 (sub_nonneg.2 hf')
  have hhi_b := mul_le_mul_of_nonneg_right hb.2 hf
  have hlo : (lo - a) * 4194304 ≤ (b - a) * f := by linarith
  have hhi : (b - a) * f ≤ (hi - a) * 4194304 := by linarith
  rw [interpolate]
  omega

/-- One unit along a segment moves the value by its slope, at most 201/128, and one rounding. -/
theorem interpolate_add_one_sub_mem {a b : Int} (h : |b - a| ≤ 201) (f : Int) :
    -2 ≤ interpolate a b (f + 1) - interpolate a b f ∧ interpolate a b (f + 1) - interpolate a b f ≤ 2 := by
  obtain ⟨hlo, hhi⟩ := abs_le.1 h
  rw [interpolate, interpolate, mul_add, mul_one]
  omega

theorem toNat_div_segment_lt (p : BitVec 32) : p.toNat / 4194304 < 1024 := by
  omega

/-- The next phase lies on the same segment, its end included: there the next segment begins. -/
theorem wave_sine_add_one (p : BitVec 32) : wave .sine (p + 1#32) =
    interpolate (rom (p.toNat / 4194304)) (rom ((p.toNat / 4194304 + 1) % 1024))
      ((p.toNat % 4194304 : Nat) + 1) := by
  rw [wave_sine]
  rcases Nat.lt_or_ge (p.toNat % 4194304 + 1) 4194304 with hin | hend
  · have hindex : (p + 1#32).toNat / 4194304 = p.toNat / 4194304 := by bv_omega
    have hfrac : (p + 1#32).toNat % 4194304 = p.toNat % 4194304 + 1 := by bv_omega
    rw [hindex, hfrac, Nat.cast_succ]
  · have hindex : (p + 1#32).toNat / 4194304 = (p.toNat / 4194304 + 1) % 1024 := by bv_omega
    have hfrac : (p + 1#32).toNat % 4194304 = 0 := by bv_omega
    have hlast : ((p.toNat % 4194304 : Nat) : Int) + 1 = 4194304 := by omega
    rw [hindex, hfrac, hlast, interpolate_end, Nat.cast_zero, interpolate_start]

/-! ### Full scale (40_oscillator.md R155) -/

theorem rom_mem_of_le_quarter {i : Nat} (hi : i ≤ 256) : 0 ≤ rom i ∧ rom i ≤ 32767 := by
  have hrows : ∀ r < 17, ∀ j < 16, 0 ≤ rom (16 * r + j) ∧ rom (16 * r + j) ≤ 32767 := by decide
  exact forall_lt_of_forall_row (P := fun i => 0 ≤ rom i ∧ rom i ≤ 32767) hrows (by omega)

theorem rom_mem_of_le_half {i : Nat} (hi : i ≤ 512) : 0 ≤ rom i ∧ rom i ≤ 32767 := by
  rcases Nat.le_total i 256 with hq | hq
  · exact rom_mem_of_le_quarter hq
  · obtain ⟨k, hk, rfl⟩ : ∃ k ≤ 256, i = 512 - k := ⟨512 - i, by omega, by omega⟩
    rw [rom_mirror hk]
    exact rom_mem_of_le_quarter hk

theorem rom_mem {i : Nat} (hi : i < 1024) : -32767 ≤ rom i ∧ rom i ≤ 32767 := by
  rcases Nat.lt_or_ge i 512 with hh | hh
  · have := rom_mem_of_le_half hh.le
    omega
  · obtain ⟨k, rfl⟩ := Nat.exists_eq_add_of_le hh
    have := rom_mem_of_le_half (i := k) (by omega)
    rw [rom_half_add (by omega)]
    omega

theorem wave_sine_mem (p : BitVec 32) : -1073709056 ≤ wave .sine p ∧ wave .sine p ≤ 1073709056 := by
  rw [wave_sine]
  exact interpolate_mem (rom_mem (toNat_div_segment_lt p)) (rom_mem (Nat.mod_lt _ (by decide))) (by omega) (by omega)

theorem wave_saw_mem (p : BitVec 32) : -Config.one ≤ wave .saw p ∧ wave .saw p ≤ Config.one - 1 := by
  rw [wave_saw, Config.one]
  omega

theorem exists_wave_square_eq_iff (v : Int) :
    (∃ p, wave .square p = v) ↔ v = Config.one ∨ v = -Config.one := by
  constructor
  · rintro ⟨p, rfl⟩
    exact ite_eq_or_eq _ _ _
  · rintro (rfl | rfl)
    · exact ⟨0#32, rfl⟩
    · exact ⟨0x80000000#32, rfl⟩

/-- The rising half of the triangle takes every value but the peak, with which the falling half begins. -/
theorem exists_wave_triangle_eq_iff (v : Int) :
    (∃ p, wave .triangle p = v) ↔ -Config.one ≤ v ∧ v ≤ Config.one := by
  simp only [wave_triangle, Config.one]
  constructor
  · rintro ⟨p, rfl⟩
    split <;> omega
  · rintro ⟨hlo, hhi⟩
    refine ⟨BitVec.ofNat 32 (v + 1073741824).toNat, ?_⟩
    rw [BitVec.toNat_ofNat, Nat.mod_eq_of_lt (by omega)]
    split <;> omega

theorem wave_mem (w : Waveform) (p : BitVec 32) : -Config.one ≤ wave w p ∧ wave w p ≤ Config.one := by
  cases w with
  | sine =>
    have := wave_sine_mem p
    rw [Config.one]
    omega
  | saw =>
    have := wave_saw_mem p
    omega
  | square =>
    rcases (exists_wave_square_eq_iff _).1 ⟨p, rfl⟩ with h | h <;> rw [h] <;> decide
  | triangle => exact (exists_wave_triangle_eq_iff _).1 ⟨p, rfl⟩

/-- Settles O35: the ranges of the four waves. -/
theorem waveformsStayInFullScale : Obligations.WaveformsStayInFullScale :=
  ⟨wave_mem, wave_sine_mem, fun p => (wave_saw_mem p).2, exists_wave_square_eq_iff, exists_wave_triangle_eq_iff⟩

/-! ### One phase unit (40_oscillator.md R164) -/

theorem wave_saw_add_one_sub_mem {p : BitVec 32} (hp : p ≠ 0xFFFFFFFF#32) :
    0 ≤ wave .saw (p + 1#32) - wave .saw p ∧ wave .saw (p + 1#32) - wave .saw p ≤ 1 := by
  have hnext : (p + 1#32).toNat = p.toNat + 1 := by bv_omega
  rw [wave_saw, wave_saw, hnext]
  omega

theorem wave_square_add_one {p : BitVec 32} (hp : p ≠ 0xFFFFFFFF#32) (hhalf : p ≠ 0x7FFFFFFF#32) :
    wave .square (p + 1#32) = wave .square p := by
  have hsame : (p + 1#32).toNat < 2147483648 ↔ p.toNat < 2147483648 := by bv_omega
  simp only [wave_square, hsame]

/-- The triangle climbs by one in the first half of the cycle and descends by one in the second, the wrap
to phase 0 included. -/
theorem wave_triangle_add_one_sub (p : BitVec 32) :
    wave .triangle (p + 1#32) - wave .triangle p = if p.toNat < 2147483648 then 1 else -1 := by
  have hnext : (p + 1#32).toNat = (p.toNat + 1) % 4294967296 := BitVec.toNat_add _ _
  rw [wave_triangle, wave_triangle, hnext]
  split_ifs <;> omega

theorem wave_sine_add_one_sub_mem (p : BitVec 32) :
    -2 ≤ wave .sine (p + 1#32) - wave .sine p ∧ wave .sine (p + 1#32) - wave .sine p ≤ 2 := by
  rw [wave_sine_add_one, wave_sine]
  exact interpolate_add_one_sub_mem (abs_rom_succ_mod_sub_le (toNat_div_segment_lt p)) _

/-- Settles O36: one phase unit of each wave, and the vectors at the documented phases. -/
theorem waveformsJumpOnlyAtTheDocumentedPhases : Obligations.WaveformsJumpOnlyAtTheDocumentedPhases := fun p =>
  ⟨wave_saw_add_one_sub_mem, wave_square_add_one, wave_triangle_add_one_sub p ▸ ite_eq_or_eq _ _ _,
    wave_sine_add_one_sub_mem p, by decide⟩

end Sys2Proof.Machine

/-! The proofs of the filter family: the three operations (41_filter.md R171, R173, R175), the effective
coefficient (R174), the pass-through (R172) and the stability (R176). -/

namespace Sys2Proof.Machine

/-! ### Clamps and roundings -/

theorem clamp_eq_max_min {lo hi : Int} (h : lo ≤ hi) (v : Int) : clamp v lo hi = max lo (min hi v) := by
  rcases clamp_cases v lo hi with hc | hc | hc <;> omega

theorem clampNat_eq_max_min {lo hi : Nat} (h : lo ≤ hi) (v : Nat) : clampNat v lo hi = max lo (min hi v) := by
  rcases clampNat_cases v lo hi with hc | hc | hc <;> omega

@[simp] theorem rnd30_one_mul (x : Int) : rnd 30 (Config.one * x) = x := by
  rw [rnd30_eq, Config.one]
  omega

/-- Rounding keeps a magnitude bound that is an integer. -/
theorem abs_rnd30_le {p m : Int} (h : |p| ≤ m * Config.one) : |rnd 30 p| ≤ m := by
  obtain ⟨hlo, hhi⟩ := abs_le.1 h
  rw [Config.one] at hlo hhi
  rw [rnd30_eq]
  exact abs_le.2 ⟨by omega, by omega⟩

/-- Clamping to an interval around 0 does not increase a magnitude. -/
theorem abs_clamp_le {v m : Int} (h : 0 ≤ m) : |clamp v (-m) m| ≤ |v| := by
  rcases clamp_cases v (-m) m with ⟨hlt, hc⟩ | ⟨_, hlt, hc⟩ | ⟨_, _, hc⟩ <;> rw [hc]
  · rw [abs_neg, abs_of_nonneg h, abs_of_neg (by omega)]
    omega
  · rw [abs_of_nonneg h, abs_of_pos (by omega)]
    omega

/-- A mean with the weights `k` and `m - k` is no larger in magnitude than both of its parts. -/
theorem abs_weightedSum_le {k m : Int} (hk : 0 ≤ k) (hk' : k ≤ m) (x h : Int) :
    |k * x + (m - k) * h| ≤ max |x| |h| * m :=
  calc |k * x + (m - k) * h| ≤ |k * x| + |(m - k) * h| := abs_add_le _ _
    _ = k * |x| + (m - k) * |h| := by rw [abs_mul, abs_mul, abs_of_nonneg hk, abs_of_nonneg (sub_nonneg.2 hk')]
    _ ≤ k * max |x| |h| + (m - k) * max |x| |h| :=
      add_le_add (mul_le_mul_of_nonneg_left (le_max_left _ _) hk)
        (mul_le_mul_of_nonneg_left (le_max_right _ _) (sub_nonneg.2 hk'))
    _ = max |x| |h| * m := by ring

/-! ### The effective coefficient (41_filter.md R174) -/

@[simp] theorem zero_qmul (b : Int) : qmul 0 b = 0 := by
  rw [qmul_eq, zero_mul]
  rfl

theorem qmul_nonneg {a b : Int} (ha : 0 ≤ a) (hb : 0 ≤ b) : 0 ≤ qmul a b :=
  le_qmul (by simpa using mul_nonneg ha hb)

theorem qmul_le_qmul_right {a a' b : Int} (h : a ≤ a') (hb : 0 ≤ b) : qmul a b ≤ qmul a' b := by
  have hprod := mul_le_mul_of_nonneg_right h hb
  rw [qmul_eq, qmul_eq]
  omega

/-- What the resonance takes from the coefficient is weighted with a nonnegative number. -/
theorem qmul_one_sub_nonneg {a : Int} (ha : 0 ≤ a) (ha' : a ≤ Config.one) : 0 ≤ qmul a (Config.one - a) :=
  qmul_nonneg ha (sub_nonneg.2 ha')

theorem one_le_effCoef (a r : Int) : 1 ≤ effCoef a r := le_max_left _ _

theorem effCoef_le {a r : Int} (ha : 1 ≤ a) (ha' : a ≤ Config.one) (hr : 0 ≤ r) : effCoef a r ≤ a :=
  max_le ha (sub_le_self a (qmul_nonneg hr (qmul_one_sub_nonneg (by omega) ha')))

theorem effCoef_zero {a : Int} (ha : 1 ≤ a) : effCoef a 0 = a := by
  rw [effCoef, zero_qmul, sub_zero, max_eq_right ha]

/-- With the coefficient `ONE` there is nothing left for the resonance to weight. -/
@[simp] theorem effCoef_one (r : Int) : effCoef Config.one r = Config.one := by
  rw [effCoef, sub_self, qmul_zero, qmul_zero]
  rfl

theorem effCoef_anti {a r r' : Int} (ha : 0 ≤ a) (ha' : a ≤ Config.one) (h : r ≤ r') :
    effCoef a r' ≤ effCoef a r :=
  max_le_max_left 1 (sub_le_sub_left (qmul_le_qmul_right h (qmul_one_sub_nonneg ha ha')) a)

/-- Settles O40: each property from the bounds of the product. -/
theorem effectiveCoefficientIsBoundedByTheCoefficient :
    Obligations.EffectiveCoefficientIsBoundedByTheCoefficient := fun a r _ ha ha' hr hrr' _ =>
  ⟨one_le_effCoef a r, effCoef_le ha ha' hr, effCoef_zero ha, effCoef_one r, effCoef_anti (by omega) ha' hrr'⟩

/-! ### The registers of the filter (41_filter.md R171, R173) -/

theorem exec_fltSetcutoff (c : Word) (s : State) : exec (.fltSetcutoff c) s =
    .next (s.setFlt { s.voice.flt with cutoffCoefficient := coefficientOf s.cfg c }) := rfl

theorem exec_fltSetres (r : Word) (s : State) : exec (.fltSetres r) s =
    .next (s.setFlt { s.voice.flt with resonance := resonanceOf r }) := rfl

theorem coefficientOf_eq_max_min (c : Config) (cut : Word) :
    coefficientOf c cut = BitVec.ofNat 31 (max 1 (min Config.oneNat (Config.twoPiQ28 *
      max Config.cutoffMin (min cut.toNat Config.cutoffMax) / (c.sampleRate * 16384)))) := by
  rw [coefficientOf, clampNat_eq_max_min (by decide), clampNat_eq_max_min (by decide),
    min_comm Config.cutoffMax]

/-- Settles O37: the two clamps as `max` and `min`. -/
theorem fltSetcutoffDerivesTheCoefficient : Obligations.FltSetcutoffDerivesTheCoefficient := by
  intro c s
  rw [exec_fltSetcutoff, coefficientOf_eq_max_min]
  rfl

theorem resonanceOf_eq_ite (r : Word) :
    resonanceOf r = if r.toNat ≤ 1020054732 then BitVec.ofNat 30 r.toNat else 1020054732#30 := by
  rw [resonanceOf, Config.resMax]
  split
  · rw [min_eq_left ‹_›]
  · rw [min_eq_right (by omega)]

/-- Settles O39: the two outcomes of the minimum. -/
theorem fltSetresClampsTheResonance : Obligations.FltSetresClampsTheResonance := by
  intro r s
  rw [exec_fltSetres, resonanceOf_eq_ite]
  rfl

/-! ### The difference equation (41_filter.md R175) -/

theorem exec_fltProcess (x : Int) (s : State) : exec (.fltProcess x) s =
    .next ((s.setFlt { s.voice.flt with previousOutput := BitVec.ofInt 32 (s.voice.flt.output x) }).returns
      (s.voice.flt.output x)) :=
  calc exec (.fltProcess x) s = execFltProcess x s := rfl
    _ = _ := by simp only [execFltProcess, Filter.process]

/-- What is observed of a processed input: the output, returned and kept as history. -/
theorem of_exec_fltProcess {x : Int} {s t : State} (h : exec (.fltProcess x) s = .next t) :
    t.obs.value = s.voice.flt.output x ∧
      t.voice.flt.previousOutput = BitVec.ofInt 32 (s.voice.flt.output x) := by
  rw [exec_fltProcess] at h
  cases h
  exact ⟨rfl, rfl⟩

theorem effCoef_eq (a r : Int) : effCoef a r =
    max 1 (a - (r * ((a * (1073741824 - a) + 536870912) / 1073741824) + 536870912) / 1073741824) := by
  rw [effCoef, qmul_eq, qmul_eq]

theorem Filter.output_eq (f : Filter) (x : Int) : f.output x = clamp
    (rnd 30 (effCoef f.cutoffCoefficient.toNat f.resonance.toNat * x +
      (Config.one - effCoef f.cutoffCoefficient.toNat f.resonance.toNat) * f.previousOutput.toInt))
    (-Config.one) Config.one := rfl

/-- Settles O41: the product, the rounding and the clamp written out. -/
theorem fltProcessIsTheDifferenceEquation : Obligations.FltProcessIsTheDifferenceEquation := by
  rintro x a r h ae y s rfl rfl rfl rfl rfl
  rw [exec_fltProcess, Filter.output_eq, rnd30_eq, clamp_eq_max_min (by decide), effCoef_eq]
  rfl

/-! ### The pass-through (41_filter.md R172, R175) -/

/-- With the coefficient `ONE` the history has the weight 0. -/
theorem Filter.output_of_coefficient_one {f : Filter} (hf : f.cutoffCoefficient = 0x40000000#31) {x : Int}
    (hx : -Config.one ≤ x) (hx' : x ≤ Config.one) : f.output x = x := by
  have hone : (f.cutoffCoefficient.toNat : Int) = Config.one := by rw [hf]; rfl
  rw [Filter.output_eq, hone, effCoef_one, sub_self, zero_mul, add_zero, rnd30_one_mul, clamp_of_mem hx hx']

/-- Settles O38: the coefficient from 20 kHz on, and the output at the coefficient `ONE`. -/
theorem highestCutoffIsAPassThrough : Obligations.HighestCutoffIsAPassThrough := by
  refine ⟨fun c s t hcfg hc h => ?coefficient, fun x s t hx hx' hone h => ?output⟩
  case coefficient =>
    rw [exec_fltSetcutoff] at h
    cases h
    exact coefficientOf_of_cutoffMax_le hcfg hc
  case output =>
    have hout := of_exec_fltProcess h
    rwa [Filter.output_of_coefficient_one hone hx hx'] at hout

/-! ### The stability (41_filter.md R176) -/

theorem Filter.abs_output_le_one (f : Filter) (x : Int) : |f.output x| ≤ Config.one :=
  abs_le.2 ⟨le_clamp (by decide), clamp_le (by decide)⟩

/-- The history register holds the output: full scale fits its 32 bits. -/
theorem Filter.toInt_ofInt_output (f : Filter) (x : Int) :
    (BitVec.ofInt 32 (f.output x)).toInt = f.output x := by
  obtain ⟨hlo, hhi⟩ := abs_le.1 (f.abs_output_le_one x)
  have hone := configOne_eq
  exact toInt_ofInt32 (by omega) (by omega)

/-- The output is a weighted mean of the input and the history, and neither the rounding nor the clamp
takes it out of their range. -/
theorem Filter.Ok.abs_output_le {f : Filter} (hf : f.Ok) (x : Int) :
    |f.output x| ≤ max |x| |f.previousOutput.toInt| := by
  obtain ⟨hlo, hhi⟩ := hf.coefficient
  have ha : (1 : Int) ≤ f.cutoffCoefficient.toNat := Int.ofNat_le.2 hlo
  have ha' : (f.cutoffCoefficient.toNat : Int) ≤ Config.one := Int.ofNat_le.2 hhi
  have hweight := one_le_effCoef f.cutoffCoefficient.toNat f.resonance.toNat
  have hweight' := effCoef_le (r := f.resonance.toNat) ha ha' (Int.natCast_nonneg _)
  exact (abs_clamp_le (by decide)).trans
    (abs_rnd30_le (abs_weightedSum_le (by omega) (hweight'.trans ha') _ _))

/-- Settles O42: the clamp, and the weighted mean. -/
theorem filterIsStable : Obligations.FilterIsStable := by
  refine ⟨fun x s t h => ?fullScale, fun x s t hok _ _ h => ?mean⟩ <;>
    obtain ⟨hvalue, hhistory⟩ := of_exec_fltProcess h
  case fullScale =>
    rw [hhistory, Filter.toInt_ofInt_output]
    exact s.voice.flt.abs_output_le_one x
  case mean =>
    rw [hhistory, hvalue, Filter.toInt_ofInt_output]
    exact ⟨hok.abs_output_le x, rfl⟩

end Sys2Proof.Machine

/-! The proofs of the envelope family: the four operations (42_envelope.md R191, R197 to R199), and how long
a ramp and a note take (R200 to R202). A stage entry and a tick are each taken as one of two equations, and
a ramp is followed tick by tick by the distance it has left. -/

namespace Sys2Proof.Machine

/-! ### The registers (42_envelope.md R191) -/

theorem samplesOf_eq_ite (c : Config) (ms : Word) : samplesOf c ms =
    BitVec.ofNat 32 ((if ms.toNat ≤ 5000 then ms.toNat else 5000) * c.sampleRate / 1000) := by
  rw [samplesOf, Config.msMax, min_def]

/-- Settles O43: the two clamps as case distinctions. -/
theorem envSetparamsDerivesTimesAndSustain : Obligations.EnvSetparamsDerivesTimesAndSustain := by
  intro a d sl rl s
  rw [← samplesOf_eq_ite, ← samplesOf_eq_ite, ← samplesOf_eq_ite, ← unitOf_eq_ite]
  rfl

/-! ### Stage entry (42_envelope.md R195, R196) -/

theorem divAway_of_nonpos {d n : Int} (hd : d ≤ 0) (hn : 1 ≤ n) : divAway d n = -((-d + n - 1) / n) := by
  rw [← divAway_of_nonneg (by omega), divAway_neg hn, neg_neg]

namespace Envelope
variable {c : Config} {e : Envelope} {st : Stage} {tg : BitVec 31} {dur : BitVec 32} {done : Envelope → Envelope}

/-- A stage with no samples or no distance is passed through, with the level at its target. -/
theorem enter_of_pass (h : dur = 0#32 ∨ e.level = tg) : e.enter st tg dur done = done { e with level := tg } := by
  rcases e.enter_cases st tg dur done with ⟨_, hx⟩ | ⟨_, hl, hx⟩ | ⟨hdur, hl, _⟩
  · exact hx
  · rw [hx, ← hl]
  · exact absurd h (not_or.2 ⟨hdur, hl⟩)

theorem enter_of_ramp (hdur : dur ≠ 0#32) (hl : e.level ≠ tg) :
    e.enter st tg dur done = e.beginRamp st tg dur := by
  rcases e.enter_cases st tg dur done with ⟨hzero, _⟩ | ⟨_, hat, _⟩ | ⟨_, _, hx⟩
  · exact absurd hzero hdur
  · exact absurd hat hl
  · exact hx

/-- The increment of a ramp upward is the quotient rounded up. -/
theorem beginRamp_of_le (hle : e.level.toNat ≤ tg.toNat) : e.beginRamp st tg dur = { e with
    stage := st, target := tg
    increment := BitVec.ofInt 32 (((tg.toNat : Int) - e.level.toNat + dur.toNat - 1) / dur.toNat) } := by
  rw [beginRamp, divAway_of_nonneg (by omega)]

/-- The increment of a ramp downward is the quotient rounded down, away from zero. -/
theorem beginRamp_of_ge (hge : tg.toNat ≤ e.level.toNat) (hdur : dur ≠ 0#32) : e.beginRamp st tg dur = { e with
    stage := st, target := tg
    increment := BitVec.ofInt 32 (-(((e.level.toNat : Int) - tg.toNat + dur.toNat - 1) / dur.toNat)) } := by
  rw [beginRamp, divAway_of_nonpos (by omega) (one_le_toNat hdur), neg_sub]

theorem completeAttack_of_pass (h : e.decayTime = 0#32 ∨ e.level = e.sustainLevel) :
    e.completeAttack = Envelope.completeDecay { e with level := e.sustainLevel } := enter_of_pass h

theorem completeAttack_of_ramp (hdur : e.decayTime ≠ 0#32) (hl : e.level ≠ e.sustainLevel) :
    e.completeAttack = e.beginRamp .decay e.sustainLevel e.decayTime := enter_of_ramp hdur hl

theorem levelOne_toNat : (levelOne.toNat : Int) = Config.one := rfl

/-- At `ONE` the completion of Attack is the one written out (42_envelope.md R196). -/
theorem attackCompleted_completeAttack (hl : e.level = levelOne) (hsus : e.sustainLevel.toNat ≤ Config.oneNat) :
    e.AttackCompleted e.completeAttack := by
  refine ⟨fun hzero => ?_, fun _ hone => ?_, fun hdur hne => ?_⟩
  · rw [completeAttack_of_pass (.inl hzero)]
    rfl
  · rw [completeAttack_of_pass (.inr (hl.trans hone.symm)), hone]
    rfl
  · have hge : e.sustainLevel.toNat ≤ e.level.toNat := by rw [hl]; exact hsus
    rw [completeAttack_of_ramp hdur (hl ▸ hne.symm), beginRamp_of_ge hge hdur, hl, levelOne_toNat]

end Envelope

/-! ### The gate signals (42_envelope.md R197, R198) -/

/-- Settles O44: the attack begins its ramp, or is completed at `ONE` at once. -/
theorem envGateonEntersAttack : Obligations.EnvGateonEntersAttack := by
  intro s hl hsus
  refine ⟨s.voice.env.gateOn, rfl, fun hdur hne => ?_, fun hpass => ?_⟩
  · rw [Envelope.gateOn, Envelope.enter_of_ramp hdur hne, Envelope.beginRamp_of_le hl, Envelope.levelOne_toNat]
  · rw [Envelope.gateOn, Envelope.enter_of_pass hpass]
    exact Envelope.attackCompleted_completeAttack (e := { s.voice.env with level := levelOne }) rfl hsus

theorem Envelope.gateOff_of_released {e : Envelope} (h : e.stage = .idle ∨ e.stage = .release) :
    e.gateOff = e := by
  rcases e.gateOff_cases with ⟨_, hx⟩ | ⟨hidle, hrel, _⟩
  · exact hx
  · exact absurd h (not_or.2 ⟨hidle, hrel⟩)

theorem Envelope.gateOff_of_held {e : Envelope} (hidle : e.stage ≠ .idle) (hrel : e.stage ≠ .release) :
    e.gateOff = e.enterRelease := by
  rcases e.gateOff_cases with ⟨hreleased, _⟩ | ⟨_, _, hx⟩
  · exact absurd hreleased (not_or.2 ⟨hidle, hrel⟩)
  · exact hx

/-- Settles O45: in a held stage the release begins its ramp, or is completed at 0 at once. -/
theorem envGateoffEntersRelease : Obligations.EnvGateoffEntersRelease := by
  intro s
  refine ⟨s.voice.env.gateOff, rfl, Envelope.gateOff_of_released, fun hidle hrel => ?_⟩
  rw [Envelope.gateOff_of_held hidle hrel]
  refine ⟨fun hpass => ?_, fun hdur hne => ?_⟩
  · rw [Envelope.enterRelease, Envelope.enter_of_pass hpass]
    rfl
  · rw [Envelope.enterRelease, Envelope.enter_of_ramp hdur hne, Envelope.beginRamp_of_ge (Nat.zero_le _) hdur,
      BitVec.toNat_zero, Nat.cast_zero, sub_zero]

theorem Envelope.enterRelease_stage (e : Envelope) :
    e.enterRelease.stage = .idle ∨ e.enterRelease.stage = .release := by
  rcases e.enter_cases .release 0#31 e.releaseTime completeRelease with ⟨_, h⟩ | ⟨_, _, h⟩ | ⟨_, _, h⟩ <;>
    rw [enterRelease, h]
  · exact .inl rfl
  · exact .inl rfl
  · exact .inr rfl

theorem Envelope.gateOff_stage (e : Envelope) : e.gateOff.stage = .idle ∨ e.gateOff.stage = .release := by
  rcases e.gateOff_cases with ⟨hreleased, h⟩ | ⟨_, _, h⟩ <;> rw [h]
  · exact hreleased
  · exact e.enterRelease_stage

@[simp] theorem Envelope.gateOff_gateOff (e : Envelope) : e.gateOff.gateOff = e.gateOff :=
  gateOff_of_released e.gateOff_stage

/-- Settles O18: the three forms are one operation, a gate-off of the envelope, and it is idempotent. -/
theorem releasingTwiceIsReleasingOnce : Obligations.ReleasingTwiceIsReleasingOnce := by
  have hagain (s t : State) (h : (.next (s.setEnv s.voice.env.gateOff) : Host.Outcome State Fault Refusal) = .next t) :
      (.next (t.setEnv t.voice.env.gateOff) : Host.Outcome State Fault Refusal) = .next t := by
    obtain rfl := Host.Outcome.next.inj h
    rw [State.setEnv_voice, Envelope.gateOff_gateOff]
    rfl
  exact fun _ _ s t => ⟨hagain s t, hagain s t, hagain s t⟩

/-! ### One tick of a ramp (42_envelope.md R199) -/

namespace Envelope
variable {c : Config} {e : Envelope}

/-- An envelope inside a ramp: in a ramping stage, on its way to the target. -/
structure OnRamp (c : Config) (e : Envelope) : Prop where
  inRange : e.InRange c
  ramping : e.Ramping
  not_idle : e.stage ≠ .idle
  not_sustain : e.stage ≠ .sustain

/-- Every legal envelope in a ramping stage is on a ramp (10_state.md R42). -/
theorem Ok.onRamp (he : e.Ok c) (hidle : e.stage ≠ .idle) (hsus : e.stage ≠ .sustain) : e.OnRamp c := by
  refine ⟨he.inRange, ?_, hidle, hsus⟩
  cases hs : e.stage with
  | idle => exact absurd hs hidle
  | sustain => exact absurd hs hsus
  | attack => exact ((stageOk_of_attack hs).1 he.stage).1
  | decay => exact ((stageOk_of_decay hs).1 he.stage).1
  | release => exact ((stageOk_of_release hs).1 he.stage).1

theorem tick_of_resting (h : e.stage = .idle ∨ e.stage = .sustain) : e.tick = ((e.level.toNat : Int), e) := by
  rcases e.tick_cases with ⟨_, hx⟩ | ⟨hidle, hsus, _⟩
  · exact hx
  · exact absurd h (not_or.2 ⟨hidle, hsus⟩)

theorem OnRamp.tick_eq_rampTick (h : e.OnRamp c) : e.tick = e.rampTick := by
  rcases e.tick_cases with ⟨hrest, _⟩ | ⟨_, _, hx⟩
  · exact absurd hrest (not_or.2 ⟨h.not_idle, h.not_sustain⟩)
  · exact hx

/-- On its target the ramp completes its stage. -/
theorem OnRamp.tick_of_landing (h : e.OnRamp c) (hland : e.ramped.level = e.target) :
    e.tick = ((e.target.toNat : Int), { e with level := e.target }.complete e.stage) := by
  have hramped : e.ramped = { e with level := e.target } :=
    congrArg (fun l => { e with level := l }) hland
  rw [h.tick_eq_rampTick, rampTick, ramped_target, if_pos hland, hland, hramped]

/-- Short of its target the ramp moves the level alone. -/
theorem OnRamp.tick_of_short (h : e.OnRamp c) (hne : e.ramped.level ≠ e.target) :
    e.tick = ((e.ramped.level.toNat : Int), e.ramped) := by
  rw [h.tick_eq_rampTick, rampTick, if_neg (show e.ramped.level ≠ e.ramped.target from hne)]

theorem OnRamp.ramped (h : e.OnRamp c) (hne : e.ramped.level ≠ e.target) : e.ramped.OnRamp c :=
  ⟨h.inRange.ramped h.ramping, ramped_ramping h.inRange h.ramping hne, h.not_idle, h.not_sustain⟩

/-- A ramp rises or falls, as its increment has it. -/
theorem Ramping.direction (h : e.Ramping) :
    (0 < e.increment.toInt ∧ e.level.toNat < e.target.toNat) ∨
    (e.increment.toInt < 0 ∧ e.target.toNat < e.level.toNat) := by
  obtain ⟨hne, hnz, hdir⟩ := h
  have hdist := BitVec.toNat_ne.1 hne
  have hinc : e.increment.toInt ≠ 0 := fun hzero => hnz (BitVec.eq_of_toInt_eq hzero)
  omega

theorem OnRamp.ramped_level_of_rising (h : e.OnRamp c) (hlt : e.level.toNat < e.target.toNat) :
    (e.ramped.level.toNat : Int) = min (e.level.toNat + e.increment.toInt) e.target.toNat := by
  rcases h.ramping.direction with ⟨hinc, _⟩ | ⟨_, hgt⟩
  · exact Envelope.ramped_level_of_rising hinc h.inRange.target
  · omega

theorem OnRamp.ramped_level_of_falling (h : e.OnRamp c) (hlt : e.target.toNat < e.level.toNat) :
    (e.ramped.level.toNat : Int) = max (e.level.toNat + e.increment.toInt) e.target.toNat := by
  rcases h.ramping.direction with ⟨_, hgt⟩ | ⟨hinc, _⟩
  · omega
  · exact Envelope.ramped_level_of_falling hinc h.inRange.level hlt

/-- The value a tick returns on a ramp is the new level, which the completion may still change
(42_envelope.md R199, corner case (b)). -/
theorem OnRamp.tick_fst (h : e.OnRamp c) : e.tick.1 = (e.ramped.level.toNat : Int) := by
  rw [h.tick_eq_rampTick]
  rfl

theorem OnRamp.tick_snd_of_landing (h : e.OnRamp c) {st : Stage} {tg : BitVec 31} (hs : e.stage = st)
    (htg : e.target = tg) (hg : e.tick.1 = (tg.toNat : Int)) : e.tick.2 = { e with level := tg }.complete st := by
  subst hs htg
  rw [h.tick_fst] at hg
  rw [h.tick_of_landing (BitVec.eq_of_toNat_eq (Int.ofNat.inj hg))]

theorem OnRamp.tick_snd_of_short (h : e.OnRamp c) (hg : e.tick.1 ≠ (e.target.toNat : Int)) :
    e.tick.2 = { e with level := BitVec.ofInt 31 e.tick.1 } := by
  have hne : e.ramped.level ≠ e.target := fun hland => hg (by rw [h.tick_fst, hland])
  rw [h.tick_of_short hne, BitVec.ofInt_natCast, BitVec.ofNat_toNat, BitVec.setWidth_eq]
  rfl

end Envelope

/-- Settles O46: the ramp rises to `ONE` in Attack and falls to the target in Decay and Release. -/
theorem envTickRampsByTheIncrement : Obligations.EnvTickRampsByTheIncrement := by
  intro s hok
  generalize he : s.voice.env = e at hok
  refine ⟨e.tick.1, e.tick.2, he ▸ rfl, ?resting, ?attack, ?decay, ?release, ?short⟩
  case resting =>
    intro hrest
    rw [Envelope.tick_of_resting hrest]
    exact ⟨rfl, rfl⟩
  case attack =>
    intro hs
    have hon := hok.onRamp (by rw [hs]; decide) (by rw [hs]; decide)
    obtain ⟨⟨hne, _⟩, htg⟩ := (Envelope.stageOk_of_attack hs).1 hok.stage
    have hlt : e.level.toNat < e.target.toNat := by
      have hdist := BitVec.toNat_ne.1 hne
      have hle := hok.level
      rw [htg] at hdist ⊢
      exact lt_of_le_of_ne hle hdist
    refine ⟨by rw [hon.tick_fst, hon.ramped_level_of_rising hlt, htg, Envelope.levelOne_toNat], fun hg => ?_⟩
    rw [hon.tick_snd_of_landing hs htg hg]
    exact Envelope.attackCompleted_completeAttack (e := { e with level := levelOne }) rfl hok.sustain
  case decay =>
    intro hs
    have hon := hok.onRamp (by rw [hs]; decide) (by rw [hs]; decide)
    obtain ⟨_, hlt⟩ := (Envelope.stageOk_of_decay hs).1 hok.stage
    refine ⟨by rw [hon.tick_fst, hon.ramped_level_of_falling hlt], fun hg => ?_⟩
    rw [hon.tick_snd_of_landing hs rfl hg]
    rfl
  case release =>
    intro hs
    have hon := hok.onRamp (by rw [hs]; decide) (by rw [hs]; decide)
    obtain ⟨⟨hne, _⟩, htg⟩ := (Envelope.stageOk_of_release hs).1 hok.stage
    have hlt : e.target.toNat < e.level.toNat := by
      have hdist := BitVec.toNat_ne.1 hne
      rw [htg] at hdist ⊢
      exact Nat.pos_of_ne_zero hdist
    refine ⟨by rw [hon.tick_fst, hon.ramped_level_of_falling hlt, htg]; rfl, fun hg => ?_⟩
    rw [hon.tick_snd_of_landing hs htg hg]
    exact congrArg (fun t => { e with stage := .idle, level := 0#31, increment := 0#32, target := t }) htg.symm
  case short =>
    intro hidle hsus hg
    exact (hok.onRamp hidle hsus).tick_snd_of_short hg

/-! ### The length of a ramp (42_envelope.md R200) -/

namespace Envelope
variable {c : Config} {e : Envelope}

@[simp] theorem ticks_zero (e : Envelope) : Envelope.ticks 0 e = e := rfl

theorem ticks_add (m n : Nat) (e : Envelope) : Envelope.ticks (m + n) e = Envelope.ticks n (Envelope.ticks m e) := by
  induction m generalizing e with
  | zero => rw [Nat.zero_add, ticks_zero]
  | succ m ih => rw [Nat.succ_add]; exact ih e.tick.2

theorem ticks_succ (n : Nat) (e : Envelope) : Envelope.ticks (n + 1) e = (Envelope.ticks n e).tick.2 := ticks_add n 1 e

/-- What a ramp has left to its target. -/
def distance (e : Envelope) : Int := |(e.target.toNat : Int) - e.level.toNat|

theorem OnRamp.distance_pos (h : e.OnRamp c) : 0 < e.distance := by
  have hdist := BitVec.toNat_ne.1 h.ramping.1
  exact abs_pos.2 (by omega)

theorem OnRamp.abs_increment_pos (h : e.OnRamp c) : 0 < |e.increment.toInt| := by
  rcases h.ramping.direction with ⟨hinc, _⟩ | ⟨hinc, _⟩
  · exact abs_pos.2 hinc.ne'
  · exact abs_pos.2 hinc.ne

/-- A distance of at most one increment is covered by one tick. -/
theorem OnRamp.ramped_level_of_distance_le (h : e.OnRamp c) (hle : e.distance ≤ |e.increment.toInt|) :
    e.ramped.level = e.target := by
  refine BitVec.eq_of_toNat_eq ?_
  rw [distance] at hle
  rcases h.ramping.direction with ⟨hinc, hlt⟩ | ⟨hinc, hlt⟩
  · have hlevel := h.ramped_level_of_rising hlt
    rw [abs_of_pos hinc] at hle
    have := le_abs_self ((e.target.toNat : Int) - e.level.toNat)
    omega
  · have hlevel := h.ramped_level_of_falling hlt
    rw [abs_of_neg hinc] at hle
    have := neg_le_abs ((e.target.toNat : Int) - e.level.toNat)
    omega

/-- A longer distance gets shorter by one increment, and the level moves by it. -/
theorem OnRamp.ramped_of_lt_distance (h : e.OnRamp c) (hlt : |e.increment.toInt| < e.distance) :
    (e.ramped.level.toNat : Int) = e.level.toNat + e.increment.toInt ∧
    e.ramped.distance = e.distance - |e.increment.toInt| := by
  simp only [distance, ramped_target] at hlt ⊢
  rcases h.ramping.direction with ⟨hinc, hup⟩ | ⟨hinc, hdown⟩
  · have hlevel := h.ramped_level_of_rising hup
    rw [abs_of_pos hinc] at hlt ⊢
    rw [abs_of_pos (by omega)] at hlt ⊢
    have hexact : (e.ramped.level.toNat : Int) = e.level.toNat + e.increment.toInt := by omega
    exact ⟨hexact, by rw [hexact, abs_of_pos (by omega)]; omega⟩
  · have hlevel := h.ramped_level_of_falling hdown
    rw [abs_of_neg hinc] at hlt ⊢
    rw [abs_of_neg (by omega)] at hlt ⊢
    have hexact : (e.ramped.level.toNat : Int) = e.level.toNat + e.increment.toInt := by omega
    exact ⟨hexact, by rw [hexact, abs_of_neg (by omega)]; omega⟩

/-- More than one increment from the target, a tick leaves an envelope on the same ramp. -/
theorem OnRamp.tick_of_lt_distance (h : e.OnRamp c) (hlt : |e.increment.toInt| < e.distance) :
    e.tick.2 = e.ramped ∧ e.ramped.OnRamp c := by
  obtain ⟨_, hleft⟩ := h.ramped_of_lt_distance hlt
  have hne : e.ramped.level ≠ e.target := fun hland => by
    have hzero : e.ramped.distance = 0 := by rw [distance, hland, ramped_target, sub_self, abs_zero]
    omega
  exact ⟨by rw [h.tick_of_short hne], h.ramped hne⟩

/-- While `k` increments stay short of the target, `k` ticks move the level by them and change nothing
else. -/
theorem OnRamp.ticks_of_lt_distance (h : e.OnRamp c) {k : Nat} (hk : k * |e.increment.toInt| < e.distance) :
    ∃ l : BitVec 31, Envelope.ticks k e = { e with level := l } ∧
      (l.toNat : Int) = e.level.toNat + k * e.increment.toInt ∧
      OnRamp c { e with level := l } ∧
      distance { e with level := l } = e.distance - k * |e.increment.toInt| := by
  induction k generalizing e with
  | zero => exact ⟨e.level, rfl, by simp, h, by simp⟩
  | succ k ih =>
    rw [Nat.cast_succ, add_mul, one_mul] at hk
    have hpos := h.abs_increment_pos
    have hrest : 0 ≤ k * |e.increment.toInt| := by positivity
    obtain ⟨hlevel, hleft⟩ := h.ramped_of_lt_distance (by omega)
    obtain ⟨htick, hon⟩ := h.tick_of_lt_distance (by omega)
    obtain ⟨l, hl, hval, hon', hleft'⟩ := ih hon (by rw [ramped_increment]; omega)
    rw [ramped_increment] at hval hleft'
    refine ⟨l, by rw [Envelope.ticks, htick, hl]; rfl, ?_, hon', hleft'.trans ?_⟩
    · rw [hval, hlevel, Nat.cast_succ, add_mul]
      omega
    · rw [hleft, Nat.cast_succ, add_mul]
      omega

/-- The tick that covers the rest of the distance returns the target and completes the stage. -/
theorem OnRamp.tick_ticks_of_distance_le (h : e.OnRamp c) {k : Nat} (hk : k * |e.increment.toInt| < e.distance)
    (hk' : e.distance ≤ k * |e.increment.toInt| + |e.increment.toInt|) :
    (Envelope.ticks k e).tick = ((e.target.toNat : Int), { e with level := e.target }.complete e.stage) := by
  obtain ⟨l, hl, _, hon, hleft⟩ := h.ticks_of_lt_distance hk
  have hland : distance { e with level := l } ≤ |e.increment.toInt| := by omega
  rw [hl]
  exact hon.tick_of_landing (hon.ramped_level_of_distance_le hland)

/-- The number of the tick on which a ramp lands: its distance in increments, rounded up
(42_envelope.md R200). -/
theorem OnRamp.landing_tick_bounds (h : e.OnRamp c) :
    ∃ k : Nat, divAway e.distance |e.increment.toInt| = (k + 1 : Nat) ∧ k * |e.increment.toInt| < e.distance ∧
      e.distance ≤ k * |e.increment.toInt| + |e.increment.toInt| := by
  obtain ⟨hcover, hlt⟩ := mul_divAway_bounds h.distance_pos.le h.abs_increment_pos
  have hpos := divAway_pos h.distance_pos h.abs_increment_pos
  obtain ⟨k, hk⟩ := Int.eq_succ_of_zero_lt hpos
  refine ⟨k, hk, ?_⟩
  rw [hk, mul_add, mul_one, mul_comm] at hcover hlt
  exact ⟨by omega, hcover⟩

/-- The completion of a ramping stage leaves the stage (42_envelope.md R196). -/
theorem complete_stage_ne (st : Stage) (hidle : st ≠ .idle) (hsus : st ≠ .sustain) (e : Envelope) :
    (e.complete st).stage ≠ st := by
  cases st with
  | idle => exact absurd rfl hidle
  | sustain => exact absurd rfl hsus
  | decay | release => exact Stage.noConfusion
  | attack =>
    change e.completeAttack.stage ≠ .attack
    by_cases hpass : e.decayTime = 0#32 ∨ e.level = e.sustainLevel
    · rw [completeAttack_of_pass hpass]
      exact Stage.noConfusion
    · obtain ⟨hdur, hne⟩ := not_or.1 hpass
      rw [completeAttack_of_ramp hdur hne]
      exact Stage.noConfusion

end Envelope

/-- Settles O47: the bounds of the landing tick, and the ramp before it and on it. -/
theorem rampTakesItsNumberOfTicks : Obligations.RampTakesItsNumberOfTicks := by
  intro c e n hok hstage hn
  have hidle : e.stage ≠ .idle := by rcases hstage with h | h | h <;> rw [h] <;> decide
  have hsus : e.stage ≠ .sustain := by rcases hstage with h | h | h <;> rw [h] <;> decide
  have hon := hok.onRamp hidle hsus
  obtain ⟨m, hm, hshort, hland⟩ := hon.landing_tick_bounds
  have hnm : n = m + 1 := by
    rw [divAway_of_nonneg hon.distance_pos.le, Envelope.distance, ← hn] at hm
    exact Int.ofNat.inj hm
  subst hnm
  have htick := hon.tick_ticks_of_distance_le hshort hland
  refine ⟨Nat.succ_pos m, fun k hk => ?_, ?_, ?_⟩
  · have hle : (k : Int) * |e.increment.toInt| ≤ m * |e.increment.toInt| :=
      mul_le_mul_of_nonneg_right (by omega) (abs_nonneg _)
    obtain ⟨l, hl, hval, _⟩ := hon.ticks_of_lt_distance (hle.trans_lt hshort)
    rw [hl]
    exact ⟨rfl, rfl, rfl, hval⟩
  · rw [Nat.add_sub_cancel, htick]
  · rw [Envelope.ticks_succ, htick]
    exact Envelope.complete_stage_ne e.stage hidle hsus _

/-! ### The length of a note (42_envelope.md R202) -/

namespace Envelope
variable {c : Config} {e : Envelope} {st : Stage} {tg : BitVec 31} {dur : BitVec 32}

/-- A completion does not read what the ramp's beginning wrote (42_envelope.md R196). -/
theorem complete_beginRamp (hidle : st ≠ .idle) (hsus : st ≠ .sustain) (l : BitVec 31) :
    { e.beginRamp st tg dur with level := l }.complete st = { e with level := l }.complete st := by
  cases st with
  | idle => exact absurd rfl hidle
  | sustain => exact absurd rfl hsus
  | decay | release => rfl
  | attack =>
    by_cases hpass : e.decayTime = 0#32 ∨ l = e.sustainLevel
    · exact (completeAttack_of_pass hpass).trans (completeAttack_of_pass (e := { e with level := l }) hpass).symm
    · obtain ⟨hdur, hne⟩ := not_or.1 hpass
      exact (completeAttack_of_ramp (e := { e.beginRamp .attack tg dur with level := l }) hdur hne).trans
        (completeAttack_of_ramp (e := { e with level := l }) hdur hne).symm

theorem InRange.beginRamp_onRamp (he : e.InRange c) (hidle : st ≠ .idle) (hsus : st ≠ .sustain)
    (htg : tg.toNat ≤ Config.oneNat) (hdur : dur ≠ 0#32) (hne : e.level ≠ tg) :
    (e.beginRamp st tg dur).OnRamp c :=
  ⟨he.beginRamp htg hdur, beginRamp_ramping he htg hdur hne, hidle, hsus⟩

/-- A new ramp lands no later than its nominal duration: that many increments cover the distance. -/
theorem InRange.landing_tick_le (he : e.InRange c) (hidle : st ≠ .idle) (hsus : st ≠ .sustain)
    (htg : tg.toNat ≤ Config.oneNat) (hdur : dur ≠ 0#32) (hne : e.level ≠ tg) {k : Nat}
    (hk : k * |(e.beginRamp st tg dur).increment.toInt| < (e.beginRamp st tg dur).distance) : k < dur.toNat := by
  obtain ⟨hinc, _⟩ := beginRamp_increment_toInt (st := st) he.level htg hdur
  have hpos := (he.beginRamp_onRamp hidle hsus htg hdur hne).abs_increment_pos
  obtain ⟨hcover, _⟩ := mul_divAway_bounds (abs_nonneg ((tg.toNat : Int) - e.level.toNat)) (one_le_toNat hdur)
  rw [← abs_divAway (one_le_toNat hdur), ← hinc] at hcover
  exact Int.ofNat_lt.1 (lt_of_mul_lt_mul_right (hk.trans_le hcover) hpos.le)

/-- A stage entered with `dur` samples is completed at its target after at most `dur` ticks, also when
it is passed through at once. -/
theorem InRange.ticks_enter (he : e.InRange c) (hidle : st ≠ .idle) (hsus : st ≠ .sustain)
    (htg : tg.toNat ≤ Config.oneNat) :
    ∃ n ≤ dur.toNat,
      Envelope.ticks n (e.enter st tg dur (Envelope.complete st)) = { e with level := tg }.complete st := by
  by_cases hpass : dur = 0#32 ∨ e.level = tg
  · exact ⟨0, Nat.zero_le _, enter_of_pass hpass⟩
  · obtain ⟨hdur, hne⟩ := not_or.1 hpass
    have hon := he.beginRamp_onRamp hidle hsus htg hdur hne
    obtain ⟨k, _, hshort, hland⟩ := hon.landing_tick_bounds
    refine ⟨k + 1, he.landing_tick_le hidle hsus htg hdur hne hshort, ?_⟩
    rw [enter_of_ramp hdur hne, ticks_succ, hon.tick_ticks_of_distance_le hshort hland]
    exact complete_beginRamp hidle hsus tg

/-- A held note: attack to `ONE`, then decay to the sustain level. -/
theorem InRange.ticks_gateOn (he : e.InRange c) : ∃ n ≤ e.attackTime.toNat + e.decayTime.toNat,
    Envelope.ticks n e.gateOn = Envelope.completeDecay { e with level := e.sustainLevel } := by
  obtain ⟨m, hm, hattack⟩ := he.ticks_enter (st := .attack) (tg := levelOne) (dur := e.attackTime)
    (by decide) (by decide) (by decide)
  obtain ⟨n, hn, hdecay⟩ := (he.withLevel (l := levelOne) (by decide)).ticks_enter (st := .decay)
    (tg := e.sustainLevel) (dur := e.decayTime) (by decide) (by decide) he.sustain
  refine ⟨m + n, Nat.add_le_add hm hn, ?_⟩
  rw [ticks_add]
  exact (congrArg (Envelope.ticks n) hattack).trans hdecay

/-- A released note: down to 0 and Idle. -/
theorem InRange.ticks_enterRelease (he : e.InRange c) : ∃ n ≤ e.releaseTime.toNat,
    Envelope.ticks n e.enterRelease = Envelope.completeRelease { e with level := 0#31 } :=
  he.ticks_enter (st := .release) (by decide) (by decide) (by decide)

end Envelope

/-- Settles O48: each stage takes no longer than its nominal duration. -/
theorem heldNoteReachesSustainAndReleasedNoteReachesIdle :
    Obligations.HeldNoteReachesSustainAndReleasedNoteReachesIdle := by
  intro c e _ hok
  refine ⟨?held, fun hstage => ?released⟩
  case held =>
    obtain ⟨n, hn, hticks⟩ := hok.inRange.ticks_gateOn
    exact ⟨n, hn, by rw [hticks]; exact ⟨rfl, rfl⟩⟩
  case released =>
    have hidle : e.stage ≠ .idle := by rcases hstage with h | h | h <;> rw [h] <;> decide
    have hrel : e.stage ≠ .release := by rcases hstage with h | h | h <;> rw [h] <;> decide
    obtain ⟨n, hn, hticks⟩ := hok.inRange.ticks_enterRelease
    refine ⟨n, hn, ?_⟩
    rw [Envelope.gateOff_of_held hidle hrel, hticks]
    exact ⟨rfl, rfl⟩

end Sys2Proof.Machine

/-! The proofs of the voice family: trigger and release (43_voice.md R221, R222), and the sample of a frame
(R223 to R225), whose bound is the filter's, kept by two factors in `0 .. ONE`. -/

namespace Sys2Proof.Machine

/-! ### Trigger and release (43_voice.md R221, R222) -/

/-- Settles O16: the stored increment is the specification's. -/
theorem noteOnTriggersTheVoice : Obligations.NoteOnTriggersTheVoice := by
  intro f s
  refine ⟨s.voice.env.gateOn, ?_⟩
  rw [← incrementOf_eq_specIncrement]
  exact ⟨rfl, rfl, rfl⟩

/-- Settles O17: the three operations gate the same envelope off. -/
theorem noteOffReleasesTheVoice : Obligations.NoteOffReleasesTheVoice :=
  fun _ s => ⟨s.voice.env.gateOff, rfl, rfl, rfl⟩

/-! ### The chain of a frame (43_voice.md R223, R224) -/

theorem exec_voiceRendersample (s : State) : exec .voiceRendersample s =
    .next ((s.setVoice s.voice.afterSample).returns s.voice.sample) := rfl

theorem exec_envTick (s : State) : exec .envTick s =
    .next ((s.setEnv s.voice.env.tick.2).returns s.voice.env.tick.1) := rfl

/-- `active` outlives a frame exactly outside Idle. -/
theorem activeAfter_eq_ite (e : Envelope) (active : Bool) :
    activeAfter e active = if e.stage = .idle then false else active := by
  rw [activeAfter]
  cases e.stage with
  | idle => rfl
  | attack => rfl
  | decay => rfl
  | sustain => rfl
  | release => rfl

theorem Voice.sample_eq (v : Voice) : v.sample =
    ((v.flt.output v.osc.advance.1 * v.env.tick.1 + 536870912) / 1073741824 * (v.amplitude.toNat : Int)
      + 536870912) / 1073741824 := by
  rw [Voice.sample, qmul_eq, qmul_eq]

/-- The Voice after a frame, part by part, with the filter's register written out. -/
theorem Voice.afterSample_eq (v : Voice) : v.afterSample = { v with
    osc := v.osc.step
    flt := { v.flt with previousOutput := BitVec.ofInt 32 (v.flt.output v.osc.advance.1) }
    env := v.env.tick.2
    active := if v.env.tick.2.stage = .idle then false else v.active } := by
  rw [← activeAfter_eq_ite]
  simp only [Voice.afterSample, Filter.process, Oscillator.advance_snd]

/-- Settles O49: the parts' own operations, one after the other. -/
theorem voiceRendersampleChainsTheBlocks : Obligations.VoiceRendersampleChainsTheBlocks := by
  intro s
  refine ⟨_, _, _, exec_oscAdvance s, exec_fltProcess _ _, exec_envTick _, ?_⟩
  rw [exec_voiceRendersample, Voice.afterSample_eq, Voice.sample_eq]
  rfl

/-! ### The range of a sample (43_voice.md R223, R225) -/

/-- A factor in `0 .. ONE` does not increase a magnitude (00_scope.md R14). -/
theorem abs_qmul_le {a b : Int} (hb : 0 ≤ b) (hb' : b ≤ Config.one) : |qmul a b| ≤ |a| :=
  abs_rnd30_le (by rw [abs_mul, abs_of_nonneg hb]; exact mul_le_mul_of_nonneg_left hb' (abs_nonneg a))

/-- The gain of a tick is the level a legal envelope holds or moves to. -/
theorem Envelope.Ok.tick_fst_mem {c : Config} {e : Envelope} (he : e.Ok c) :
    0 ≤ e.tick.1 ∧ e.tick.1 ≤ Config.one := by
  rcases e.tick_cases with ⟨_, h⟩ | ⟨hidle, hsus, _⟩
  · rw [h]
    exact ⟨Int.natCast_nonneg _, Int.ofNat_le.2 he.level⟩
  · have hon := he.onRamp hidle hsus
    rw [hon.tick_fst]
    exact ⟨Int.natCast_nonneg _, Int.ofNat_le.2 (hon.inRange.ramped hon.ramping).level⟩

theorem Voice.Ok.abs_sample_le_one {c : Config} {v : Voice} (hv : v.Ok c) : |v.sample| ≤ Config.one := by
  obtain ⟨hgain, hgain'⟩ := hv.env.tick_fst_mem
  calc |v.sample| ≤ |qmul (v.flt.output v.osc.advance.1) v.env.tick.1| :=
        abs_qmul_le (Int.natCast_nonneg _) (Int.ofNat_le.2 hv.amplitude)
    _ ≤ |v.flt.output v.osc.advance.1| := abs_qmul_le hgain hgain'
    _ ≤ Config.one := v.flt.abs_output_le_one _

theorem Envelope.stageOk_of_idle {e : Envelope} (hs : e.stage = .idle) :
    e.StageOk ↔ e.level = 0#31 ∧ e.increment = 0#32 ∧ e.target = 0#31 := by
  simp only [Envelope.StageOk, hs]

/-- In Idle a legal envelope ticks at the gain 0 and stays as it is. -/
theorem Envelope.Ok.tick_of_idle {c : Config} {e : Envelope} (he : e.Ok c) (hs : e.stage = .idle) :
    e.tick = (0, e) := by
  obtain ⟨hlevel, _, _⟩ := (Envelope.stageOk_of_idle hs).1 he.stage
  rw [Envelope.tick_of_resting (.inl hs), hlevel]
  rfl

/-- The gain 0 silences the frame, whatever the filter's output (43_voice.md R225). -/
theorem Voice.Ok.sample_of_idle {c : Config} {v : Voice} (hv : v.Ok c) (hs : v.env.stage = .idle) :
    v.sample = 0 := by
  rw [Voice.sample, hv.env.tick_of_idle hs, qmul_zero, zero_qmul]

theorem Voice.Ok.afterSample_active_of_idle {c : Config} {v : Voice} (hv : v.Ok c) (hs : v.env.stage = .idle) :
    v.afterSample.active = false := by
  rw [Voice.afterSample_active, hv.env.tick_of_idle hs, activeAfter_eq_ite, if_pos hs]

/-- Settles O50: the filter's output is in full scale, and the gain and the amplitude keep it there. -/
theorem renderedSampleStaysInFullScale : Obligations.RenderedSampleStaysInFullScale := by
  intro s hs
  obtain ⟨hlo, hhi⟩ := abs_le.1 hs.voice.abs_sample_le_one
  exact ⟨_, exec_voiceRendersample s, hlo, hhi, rfl, fun hidle =>
    ⟨hs.voice.sample_of_idle hidle, hs.voice.afterSample_active_of_idle hidle⟩⟩

end Sys2Proof.Machine

/-! The proofs of the render engine family: the block start (44_render_engine.md R241, R243), one frame and
its PCM value (R244 to R246), a fill left alone (R246, R249), and what holds within a block (R247). -/

namespace Sys2Proof.Machine

/-! ### The block start (44_render_engine.md R241, R243) -/

theorem execAll_append {is : List Instr} {s t : State} (h : execAll is s = .next t) (js : List Instr) :
    execAll (is ++ js) s = execAll js t := by
  induction is generalizing s with
  | nil => exact congrArg (execAll js) (Host.Outcome.next.inj h)
  | cons i is ih =>
    rw [List.cons_append, execAll]
    rw [execAll] at h
    cases hi : exec i s with
    | next u =>
      rw [hi] at h
      exact ih h
    | fault r | refused r =>
      rw [hi] at h
      cases h

/-- The operations that derive the control registers from a snapshot (44_render_engine.md R241). -/
def deriveOps (b : Snapshot) : List Instr :=
  [.oscSetwave b.waveform, .fltSetcutoff b.cutoff, .fltSetres b.resonance,
    .envSetparams b.attackMs b.decayMs b.sustain b.releaseMs]

/-- The operation of a gate edge, if there is one (44_render_engine.md R243). -/
def gateOps (f : Word) (now before : Bool) : List Instr :=
  if now = true ∧ before = false then [.voiceTrigger f]
  else if now = false ∧ before = true then [.voiceRelease]
  else []

theorem execAll_deriveOps (b : Snapshot) (s : State) :
    execAll (deriveOps b) s = .next (s.setVoice (s.voice.derive s.cfg b)) := rfl

theorem execAll_gateOps (f : Word) (now before : Bool) (s : State) :
    execAll (gateOps f now before) s = .next (s.setVoice (s.voice.gateEdge s.cfg f now before)) := by
  cases now with
  | false =>
    cases before with
    | false | true => rfl
  | true =>
    cases before with
    | false | true => rfl

/-- Settles O21: the derivations, then the gate edge, leave the Voice of the block start. -/
theorem blockStartDerivesThePublishedBank : Obligations.BlockStartDerivesThePublishedBank := by
  intro s
  have hderive := execAll_deriveOps (publishedBank s) s
  have hgate := execAll_gateOps (publishedBank s).noteFreq ((publishedBank s).gate.getLsbD 0) s.rend.prevGate
  exact ⟨_, (execAll_append hderive _).trans (hgate _), rfl⟩

/-! ### The PCM value of a sample (44_render_engine.md R244) -/

theorem pcm_eq_max_min (v : Int) : pcm v = max (-32768) (min 32767 ((v + 16384) / 32768)) := by
  rw [pcm, rnd15_eq, clamp_eq_max_min (by decide)]

theorem pcm_mem (v : Int) : -32768 ≤ pcm v ∧ pcm v ≤ 32767 := ⟨le_clamp (by decide), clamp_le (by decide)⟩

/-- A signed 16-bit word holds what it is given when that fits. -/
theorem pcmWord_toInt {v : Int} (h : -32768 ≤ v) (h' : v ≤ 32767) : (pcmWord v).toInt = v := by
  rw [pcmWord, BitVec.toInt_ofInt, Int.bmod_eq_of_le] <;> norm_num <;> omega

/-- Settles O24: below the top clamp the PCM value is the rounded quotient itself. -/
theorem pcmIsTheNearestRepresentableValue : Obligations.PcmIsTheNearestRepresentableValue := by
  intro v hlo _
  obtain ⟨hmin, hmax⟩ := pcm_mem v
  have hpcm := pcm_eq_max_min v
  rw [Config.one] at hlo
  refine ⟨hmin, hmax, pcmWord_toInt hmin hmax, fun htop => ?_, fun hbelow => ?_⟩
  · omega
  · have hrounded : pcm v = (v + 16384) / 32768 := by omega
    omega

/-! ### The two words of a frame (20_memory.md R84, R85) -/

/-- The loop with a frame's value in the two words from `w` on (44_render_engine.md R245). -/
def Memory.writeFrame (m : Memory) (w : Nat) (v : Half) : Memory := (m.writeHalf w v).writeHalf (w + 1) v

section Memory
variable {m : Memory} {w : Nat} {v : Half}

theorem Memory.wf_writeFrame (h : m.wf = true) : (m.writeFrame w v).wf = true :=
  Memory.wf_writeHalf (Memory.wf_writeHalf h)

theorem Memory.readHalf_writeFrame_of_mem (h : m.wf = true) {u : Nat} (hu : u = w ∨ u = w + 1) :
    (m.writeFrame w v).readHalf u = v := by
  rw [Memory.writeFrame, Memory.readHalf_writeHalf (Memory.wf_writeHalf h), Memory.readHalf_writeHalf h]
  rcases hu with rfl | rfl
  · rw [if_neg (by omega), if_pos rfl]
  · rw [if_pos rfl]

theorem Memory.readHalf_writeFrame_of_lt (h : m.wf = true) {u : Nat} (hu : u < w) :
    (m.writeFrame w v).readHalf u = m.readHalf u := by
  rw [Memory.writeFrame, Memory.readHalf_writeHalf (Memory.wf_writeHalf h), if_neg (by omega),
    Memory.readHalf_writeHalf h, if_neg (by omega)]

theorem Memory.read_writeFrame_of_outside (h : m.wf = true) {a : Nat} (ha : a < 2 * w ∨ 2 * w + 4 ≤ a) :
    (m.writeFrame w v).read a = m.read a := by
  rw [Memory.writeFrame, Memory.read_writeHalf (Memory.wf_writeHalf h), if_neg (by omega), if_neg (by omega),
    Memory.read_writeHalf h, if_neg (by omega), if_neg (by omega)]

end Memory

theorem frameOut_eq_writeFrame (s : State) : frameOut s =
    s.out.writeFrame (bufBase s.cfg s.sched.fillTarget + 2 * s.rend.frameIdx.toNat) (pcmWord (pcm s.voice.sample)) :=
  rfl

/-! ### One frame (44_render_engine.md R245, R246) -/

theorem exec_renderFrame {s : State} (hbusy : s.sched.busy = true) (hidx : s.rend.frameIdx.toNat < s.cfg.bufFrames) :
    exec .renderFrame s = .next (endFrame ((s.setVoice s.voice.afterSample).setOut (frameOut s))) := by
  rcases execRenderFrame_cases s with ⟨hidle, _⟩ | ⟨_, hout, _⟩ | ⟨_, _, h⟩
  · exact absurd (hidle.symm.trans hbusy) Bool.false_ne_true
  · omega
  · exact h

/-- The end of a frame inside the block, register by register. -/
theorem endFrame_eq {s : State} (hidx : s.rend.frameIdx.toNat < s.cfg.bufFrames) : endFrame s = { s with
    sched := if s.rend.frameIdx.toNat = s.cfg.bufFrames - 1 then { s.sched with busy := false } else s.sched
    rend := if s.rend.frameIdx.toNat = s.cfg.bufFrames - 1 then { s.rend with frameIdx := 0#15 }
      else { s.rend with frameIdx := BitVec.ofNat 15 (s.rend.frameIdx.toNat + 1) } } := by
  rcases endFrame_cases s with ⟨hlast, h⟩ | ⟨hmore, h⟩ <;> rw [h]
  · rw [if_pos (by omega), if_pos (by omega)]
  · rw [if_neg (by omega), if_neg (by omega), BitVec.ofNat_add, BitVec.ofNat_toNat, BitVec.setWidth_eq]

/-- Settles O22: the frame's two words, and the end of the frame. -/
theorem renderFrameWritesOneFrame : Obligations.RenderFrameWritesOneFrame := by
  intro s hbusy hidx hwf
  refine ⟨s.voice.sample, s.voice.afterSample, frameOut s, exec_voiceRendersample s, ?_,
    Memory.wf_writeFrame hwf, fun w hw => ?_, fun a ha => Memory.read_writeFrame_of_outside hwf ha⟩
  · rw [exec_renderFrame hbusy hidx]
    exact congrArg Host.Outcome.next (endFrame_eq hidx)
  · rw [frameOut_eq_writeFrame, Memory.readHalf_writeFrame_of_mem hwf hw, pcm_eq_max_min]
    rfl

/-! ### A fill left alone (44_render_engine.md R246, R249) -/

theorem step_of_fill {s : State} (htr : s.trace = []) (hbusy : s.sched.busy = true) :
    step s = exec .renderFrame s :=
  step_of_fetch_run (by simp only [fetch, htr, fetchOwn, hbusy, if_true])

theorem Voice.frames_succ (n : Nat) (v : Voice) : Voice.frames (n + 1) v = (Voice.frames n v).afterSample := by
  induction n generalizing v with
  | zero => rfl
  | succ n ih => exact ih v.afterSample

/-- The word of the fill's buffer where its frame `k` begins (20_memory.md R84). -/
def frameWord (s : State) (k : Nat) : Nat := bufBase s.cfg s.sched.fillTarget + 2 * k

/-- What the fill stores in its frame `k` (44_render_engine.md R245). -/
def framePcm (s : State) (k : Nat) : Half := pcmWord (pcm (Voice.frames k s.voice).sample)

/-- The output loop after the first `k` frames of a fill that starts in `s`. -/
def fillOut (s : State) : Nat → Memory
  | 0 => s.out
  | k + 1 => (fillOut s k).writeFrame (frameWord s k) (framePcm s k)

/-- The state after the first `k` frames of a fill that starts in `s`, while it still runs. -/
def midFill (s : State) (k : Nat) : State :=
  { s with
    voice := Voice.frames k s.voice
    out := fillOut s k
    rend := { s.rend with frameIdx := BitVec.ofNat 15 k } }

/-- The state after the whole fill of the block that starts in `s` (44_render_engine.md R246). -/
def filled (s : State) : State :=
  { s with
    voice := Voice.frames s.cfg.bufFrames s.voice
    sched := { s.sched with busy := false }
    out := fillOut s s.cfg.bufFrames
    rend := { s.rend with frameIdx := 0#15 } }

section Fill
variable {s : State}

theorem wf_fillOut (hwf : s.out.wf = true) (k : Nat) : (fillOut s k).wf = true := by
  induction k with
  | zero => exact hwf
  | succ k ih => exact Memory.wf_writeFrame ih

/-- A frame of the fill stays as it was stored: every later one lies above it. -/
theorem readHalf_fillOut (hwf : s.out.wf = true) {j k w : Nat} (hjk : j < k)
    (hw : w = frameWord s j ∨ w = frameWord s j + 1) : (fillOut s k).readHalf w = framePcm s j := by
  induction k with
  | zero => exact absurd hjk (Nat.not_lt_zero j)
  | succ k ih =>
    rw [fillOut]
    rcases Nat.lt_succ_iff_lt_or_eq.1 hjk with hlt | rfl
    · have hbelow : w < frameWord s k := by
        simp only [frameWord] at hw ⊢
        omega
      rw [Memory.readHalf_writeFrame_of_lt (wf_fillOut hwf k) hbelow]
      exact ih hlt
    · exact Memory.readHalf_writeFrame_of_mem (wf_fillOut hwf j) hw

theorem read_fillOut_of_outside (hwf : s.out.wf = true) {k a : Nat}
    (ha : a < 2 * frameWord s 0 ∨ 2 * frameWord s k ≤ a) : (fillOut s k).read a = s.out.read a := by
  induction k with
  | zero => rfl
  | succ k ih =>
    simp only [frameWord] at ha ih
    rw [fillOut, Memory.read_writeFrame_of_outside (wf_fillOut hwf k) (by simp only [frameWord]; omega)]
    exact ih (by omega)

theorem midFill_zero (hidx : s.rend.frameIdx = 0#15) : midFill s 0 = s := by
  rw [midFill, ← hidx]
  rfl

theorem filled_eq (hidx : s.rend.frameIdx = 0#15) : filled s = { s with
    voice := Voice.frames s.cfg.bufFrames s.voice
    sched := { s.sched with busy := false }
    out := fillOut s s.cfg.bufFrames } := by
  rw [filled, ← hidx]

theorem midFill_frameIdx (hs : s.Ok) {k : Nat} (hk : k < s.cfg.bufFrames) :
    (midFill s k).rend.frameIdx.toNat = k :=
  Nat.mod_eq_of_lt (Nat.lt_of_lt_of_le hk (bufFrames_le hs.cfg))

theorem frameOut_midFill (hs : s.Ok) {k : Nat} (hk : k < s.cfg.bufFrames) :
    frameOut (midFill s k) = fillOut s (k + 1) := by
  rw [frameOut_eq_writeFrame, midFill_frameIdx hs hk]
  rfl

/-- The end of frame `k`, with the frame rendered and the index not yet moved, counts it or ends the fill. -/
theorem endFrame_midFill (hs : s.Ok) {k : Nat} (hk : k < s.cfg.bufFrames) :
    endFrame ((midFill s (k + 1)).setRend (midFill s k).rend) =
      if k + 1 = s.cfg.bufFrames then filled s else midFill s (k + 1) := by
  have hkidx := midFill_frameIdx hs hk
  rcases endFrame_cases ((midFill s (k + 1)).setRend (midFill s k).rend)
    with ⟨hlast, h⟩ | ⟨hmore, h⟩ <;> rw [h]
  · have hlast : k + 1 = s.cfg.bufFrames := hkidx ▸ hlast
    rw [if_pos hlast, filled, ← hlast]
    rfl
  · have hmore : k + 1 ≠ s.cfg.bufFrames := hkidx ▸ hmore
    rw [if_neg hmore, midFill, midFill, BitVec.ofNat_add]
    rfl

/-- Every step of the fill is its next frame, and the last one ends it. -/
theorem step_midFill (hs : s.Ok) (hbusy : s.sched.busy = true) (htr : s.trace = []) {k : Nat}
    (hk : k < s.cfg.bufFrames) :
    step (midFill s k) = .next (if k + 1 = s.cfg.bufFrames then filled s else midFill s (k + 1)) :=
  calc step (midFill s k) = exec .renderFrame (midFill s k) := step_of_fill htr hbusy
    _ = .next (endFrame (((midFill s k).setVoice (Voice.frames k s.voice).afterSample).setOut
          (frameOut (midFill s k)))) := exec_renderFrame hbusy ((midFill_frameIdx hs hk).symm ▸ hk)
    _ = .next (endFrame ((midFill s (k + 1)).setRend (midFill s k).rend)) := by
      rw [frameOut_midFill hs hk, ← Voice.frames_succ]
      rfl
    _ = _ := by rw [endFrame_midFill hs hk]

/-- The rest of a fill, by induction on the frames still to come. -/
theorem runSteps_midFill (hs : s.Ok) (hbusy : s.sched.busy = true) (htr : s.trace = []) {k n : Nat}
    (hn : k + (n + 1) = s.cfg.bufFrames) : runSteps (n + 1) (midFill s k) = .next (filled s) := by
  have hstep := step_midFill hs hbusy htr (show k < s.cfg.bufFrames by omega)
  induction n generalizing k with
  | zero =>
    rw [if_pos hn] at hstep
    exact runSteps_succ_of_next hstep 0
  | succ n ih =>
    rw [if_neg (by omega)] at hstep
    rw [runSteps_succ_of_next hstep]
    exact ih (by omega) (step_midFill hs hbusy htr (by omega))

end Fill

/-- Settles O25: the fill frame by frame, and what its frames leave in the loop. -/
theorem fillRendersTheWholeBlock : Obligations.FillRendersTheWholeBlock := by
  intro s hs hbusy hidx htr
  obtain ⟨n, hn⟩ := Nat.exists_eq_add_of_le' (one_le_bufFrames hs.cfg)
  have hwf := hs.out.form
  refine ⟨fillOut s s.cfg.bufFrames, ?_, fun k hk =>
    ⟨readHalf_fillOut hwf hk (.inl rfl), readHalf_fillOut hwf hk (.inr rfl)⟩, fun a ha =>
    read_fillOut_of_outside hwf ?_⟩
  · have hrun := runSteps_midFill hs hbusy htr (k := 0) (n := n) (by omega)
    rwa [midFill_zero hidx, ← hn, filled_eq hidx] at hrun
  · simp only [frameWord]
    omega

/-! ### The control registers within a block (44_render_engine.md R247) -/

/-- The registers that `ENV.SETPARAMS` writes (42_envelope.md R191). -/
def Envelope.params (e : Envelope) : BitVec 32 × BitVec 32 × BitVec 32 × BitVec 31 :=
  (e.attackTime, e.decayTime, e.releaseTime, e.sustainLevel)

namespace Envelope
variable {e : Envelope}

/-- A stage entry writes none of the parameters if the stage's completion writes none. -/
theorem enter_params {st : Stage} {tg : BitVec 31} {dur : BitVec 32} {done : Envelope → Envelope}
    (hdone : ∀ e', (done e').params = e'.params) : (e.enter st tg dur done).params = e.params := by
  rcases e.enter_cases st tg dur done with ⟨_, h⟩ | ⟨_, _, h⟩ | ⟨_, _, h⟩ <;> rw [h]
  · exact hdone _
  · exact hdone e
  · rfl

@[simp] theorem completeAttack_params (e : Envelope) : e.completeAttack.params = e.params :=
  enter_params fun _ => rfl

@[simp] theorem gateOn_params (e : Envelope) : e.gateOn.params = e.params := enter_params completeAttack_params

@[simp] theorem gateOff_params (e : Envelope) : e.gateOff.params = e.params := by
  rcases e.gateOff_cases with ⟨_, h⟩ | ⟨_, _, h⟩ <;> rw [h]
  exact enter_params fun _ => rfl

@[simp] theorem complete_params (st : Stage) (e : Envelope) : (e.complete st).params = e.params := by
  cases st with
  | attack => exact e.completeAttack_params
  | idle | decay | sustain | release => rfl

@[simp] theorem tick_params (e : Envelope) : e.tick.2.params = e.params := by
  rcases e.tick_cases with ⟨_, h⟩ | ⟨_, _, h⟩ <;> rw [h]
  obtain ⟨_, ⟨_, h⟩ | ⟨_, h⟩⟩ := e.rampTick_cases <;> rw [h]
  · exact complete_params e.stage e.ramped
  · rfl

end Envelope

/-- The seven registers derived from the published snapshot (44_render_engine.md R241). -/
def Voice.derived (v : Voice) :
    Waveform × BitVec 31 × BitVec 30 × BitVec 32 × BitVec 32 × BitVec 32 × BitVec 31 :=
  (v.osc.waveform, v.flt.cutoffCoefficient, v.flt.resonance, v.env.params)

theorem Voice.derived_congr {v v' : Voice} (hwave : v'.osc.waveform = v.osc.waveform)
    (hcoef : v'.flt.cutoffCoefficient = v.flt.cutoffCoefficient) (hres : v'.flt.resonance = v.flt.resonance)
    (henv : v'.env.params = v.env.params) : v'.derived = v.derived := by
  rw [Voice.derived, Voice.derived, hwave, hcoef, hres, henv]

@[simp] theorem Voice.trigger_derived (c : Config) (f : Word) (v : Voice) : (v.trigger c f).derived = v.derived :=
  Voice.derived_congr rfl rfl rfl v.env.gateOn_params

@[simp] theorem Voice.release_derived (v : Voice) : v.release.derived = v.derived :=
  Voice.derived_congr rfl rfl rfl v.env.gateOff_params

@[simp] theorem Voice.afterSample_derived (v : Voice) : v.afterSample.derived = v.derived :=
  Voice.derived_congr rfl rfl rfl v.env.tick_params

theorem VoiceEffect.derived {c : Config} {v v' : Voice} {i : Instr} (h : VoiceEffect c v i v')
    (hwave : ∀ w, i ≠ .oscSetwave w) (hcut : ∀ w, i ≠ .fltSetcutoff w) (hres : ∀ r, i ≠ .fltSetres r)
    (hpar : ∀ a d sl rl, i ≠ .envSetparams a d sl rl) : v'.derived = v.derived := by
  cases h with
  | setWave w => exact absurd rfl (hwave w)
  | setCutoff w => exact absurd rfl (hcut w)
  | setRes r => exact absurd rfl (hres r)
  | setParams a d sl rl => exact absurd rfl (hpar a d sl rl)
  | noteOn f | trigger f => exact v.trigger_derived c f
  | noteOff | release => exact v.release_derived
  | gateOn => exact Voice.derived_congr rfl rfl rfl v.env.gateOn_params
  | gateOff => exact Voice.derived_congr rfl rfl rfl v.env.gateOff_params
  | tick => exact Voice.derived_congr rfl rfl rfl v.env.tick_params
  | sample => exact v.afterSample_derived
  | amplitude | setFreq | advance | process => rfl

theorem takeEvent_of_busy {s : State} (hbusy : s.sched.busy = true) (b : Buffer) :
    takeEvent b s = s.setSched (recordUnderrun { s.sched with own := b }) := by
  rcases takeEvent_cases b s with ⟨_, h⟩ | ⟨hidle, _⟩
  · exact h
  · exact absurd (hidle.symm.trans hbusy) Bool.false_ne_true

@[simp] theorem endFrame_prevGate (s : State) : (endFrame s).rend.prevGate = s.rend.prevGate := by
  rcases endFrame_cases s with ⟨_, h⟩ | ⟨_, h⟩ <;> rw [h]

/-- Settles O27: each effect that is left keeps the derived registers and the remembered gate. -/
theorem controlRegistersHoldWithinABlock : Obligations.ControlRegistersHoldWithinABlock := by
  intro i s t h hwave hcut hres hpar hstart hreset hevent
  have hkept : t.voice.derived = s.voice.derived ∧ t.rend.prevGate = s.rend.prevGate := by
    cases effect_of_exec h with
    | voice o hv => exact ⟨hv.derived hwave hcut hres hpar, rfl⟩
    | ht =>
      rw [takeEvent_of_busy (hevent (.inl rfl))]
      exact ⟨rfl, rfl⟩
    | tc =>
      rw [takeEvent_of_busy (hevent (.inr rfl))]
      exact ⟨rfl, rfl⟩
    | startBlock => exact absurd rfl hstart
    | frame => simp
    | reset => exact absurd rfl hreset
    | observe | stage | publish | transmit => exact ⟨rfl, rfl⟩
  simpa only [Voice.derived, Envelope.params, Prod.mk.injEq, and_assoc] using hkept

end Sys2Proof.Machine

/-! The proofs of the output scheduler family: the transition table (45_output_scheduler.md R266), the underrun
record (R268), the buffer a frame writes (R270), the peripheral's step (R277), and the transmitted stream
(R278, R279). -/

namespace Sys2Proof.Machine

/-! ### The transition table (45_output_scheduler.md R264, R266) -/

theorem takeEvent_of_idle {s : State} (hidle : s.sched.busy = false) (b : Buffer) :
    takeEvent b s = startFill b s := by
  rcases takeEvent_cases b s with ⟨hbusy, _⟩ | ⟨_, h⟩
  · exact absurd (hidle.symm.trans hbusy) Bool.false_ne_true
  · exact h

/-- Settles O19: an event starts the fill of its buffer, or records the underrun. -/
theorem eventsFollowTheTransitionTable : Obligations.EventsFollowTheTransitionTable := by
  intro s
  refine ⟨fun hidle => ⟨⟨_, rfl, ?_⟩, ⟨_, rfl, ?_⟩⟩, fun hbusy => ⟨?_, ?_⟩⟩
  · exact congrArg Host.Outcome.next (takeEvent_of_idle hidle .B)
  · exact congrArg Host.Outcome.next (takeEvent_of_idle hidle .A)
  · exact congrArg Host.Outcome.next (takeEvent_of_busy hbusy .B)
  · exact congrArg Host.Outcome.next (takeEvent_of_busy hbusy .A)

/-! ### The underrun record (45_output_scheduler.md R267, R268) -/

theorem saturatingCount_toNat (n : BitVec 32) :
    (saturatingCount n).toNat = min (n.toNat + 1) (2 ^ 32 - 1) := by
  rw [saturatingCount, BitVec.toNat_ofNat]
  omega

theorem le_saturatingCount (n : BitVec 32) : n.toNat ≤ (saturatingCount n).toNat := by
  rw [saturatingCount_toNat]
  omega

/-- What the scheduler `c'` owes to the underrun record of an earlier `c` (45_output_scheduler.md R268). -/
structure RecordSticks (c c' : Scheduler) : Prop where
  flag : c.underrunFlag = true → c'.underrunFlag = true
  count : c.underrunCount.toNat ≤ c'.underrunCount.toNat
  saturated : c.underrunCount = 0xFFFFFFFF#32 → c'.underrunCount = 0xFFFFFFFF#32

theorem RecordSticks.of_eq {c c' : Scheduler} (hflag : c'.underrunFlag = c.underrunFlag)
    (hcount : c'.underrunCount = c.underrunCount) : RecordSticks c c' where
  flag h := hflag.trans h
  count := by rw [hcount]
  saturated h := hcount.trans h

theorem recordSticks_recordUnderrun (c : Scheduler) (b : Buffer) :
    RecordSticks c (recordUnderrun { c with own := b }) where
  flag _ := rfl
  count := le_saturatingCount c.underrunCount
  saturated h := by
    change saturatingCount c.underrunCount = _
    rw [h]
    rfl

theorem recordSticks_takeEvent (b : Buffer) (s : State) : RecordSticks s.sched (takeEvent b s).sched := by
  rcases takeEvent_cases b s with ⟨_, h⟩ | ⟨_, h⟩ <;> rw [h]
  · exact recordSticks_recordUnderrun s.sched b
  · exact .of_eq rfl rfl

/-- The end of a frame leaves the underrun record alone. -/
theorem endFrame_record (s : State) : (endFrame s).sched.underrunCount = s.sched.underrunCount ∧
    (endFrame s).sched.underrunFlag = s.sched.underrunFlag := by
  rcases endFrame_cases s with ⟨_, h⟩ | ⟨_, h⟩ <;> rw [h] <;> exact ⟨rfl, rfl⟩

theorem recordSticks_endFrame (s : State) : RecordSticks s.sched (endFrame s).sched := by
  obtain ⟨hcount, hflag⟩ := endFrame_record s
  exact .of_eq hflag hcount

theorem Effect.recordSticks {s t : State} {i : Instr} (h : Effect s i t) (hreset : i ≠ .reset) :
    RecordSticks s.sched t.sched := by
  cases h with
  | ht => exact recordSticks_takeEvent .B s
  | tc => exact recordSticks_takeEvent .A s
  | frame => exact recordSticks_endFrame ((s.setVoice s.voice.afterSample).setOut (frameOut s))
  | reset => exact absurd rfl hreset
  | observe | stage | publish | voice | startBlock | transmit => exact .of_eq rfl rfl

/-- Settles O20: every effect but reset's keeps the record or adds to it. -/
theorem underrunRecordIsStickyAndSaturates : Obligations.UnderrunRecordIsStickyAndSaturates := by
  refine ⟨fun i s t hreset h => ?_, fun s t h => ?_⟩
  · obtain ⟨hflag, hcount, hsaturated⟩ := (effect_of_exec h).recordSticks hreset
    exact ⟨hflag, hcount, hsaturated⟩
  · cases h
    exact ⟨rfl, rfl⟩

/-! ### The buffer a frame writes (45_output_scheduler.md R270) -/

/-- The two buffers share no byte (20_memory.md R84). -/
theorem bufBase_disjoint {c : Config} {b b' : Buffer} (h : b ≠ b') :
    bufBase c b + 2 * c.bufFrames ≤ bufBase c b' ∨ bufBase c b' + 2 * c.bufFrames ≤ bufBase c b := by
  cases b with
  | A =>
    cases b' with
    | A => exact absurd rfl h
    | B => exact .inr (by simp [bufBase])
  | B =>
    cases b' with
    | A => exact .inl (by simp [bufBase])
    | B => exact absurd rfl h

/-- A frame inside the block changes no byte of the buffer that is not being filled. -/
theorem read_frameOut_of_ne {s : State} (hwf : s.out.wf = true) (hidx : s.rend.frameIdx.toNat < s.cfg.bufFrames)
    {b : Buffer} (hb : b ≠ s.sched.fillTarget) {a : Nat} (hlo : 2 * bufBase s.cfg b ≤ a)
    (hhi : a < 2 * bufBase s.cfg b + 4 * s.cfg.bufFrames) : (frameOut s).read a = s.out.read a := by
  have hdisjoint := bufBase_disjoint (c := s.cfg) hb
  rw [frameOut_eq_writeFrame]
  exact Memory.read_writeFrame_of_outside hwf (by omega)

theorem out_of_exec_renderFrame {s t : State} (h : exec .renderFrame s = .next t) :
    s.rend.frameIdx.toNat < s.cfg.bufFrames ∧ t.out = frameOut s := by
  change execRenderFrame s = .next t at h
  rcases execRenderFrame_cases s with ⟨_, hx⟩ | ⟨_, _, hx⟩ | ⟨_, hidx, hx⟩ <;> rw [hx] at h <;> cases h
  exact ⟨hidx, endFrame_out _⟩

/-- Settles O26: without an underrun the buffer being filled is the one software owns. -/
theorem framesWriteOnlyTheSoftwareOwnedBuffer : Obligations.FramesWriteOnlyTheSoftwareOwnedBuffer := by
  intro s t hs hflag h
  have hown := hs.sequencing.owned hflag
  obtain ⟨hidx, hout⟩ := out_of_exec_renderFrame h
  refine ⟨hown, fun b a hb hlo hhi => ?_⟩
  rw [hout]
  exact read_frameOut_of_ne hs.out.form hidx (hown ▸ hb) hlo hhi

/-! ### The step of the peripheral (45_output_scheduler.md R277) -/

/-- Frame `f` of the loop: its left and its right word (20_memory.md R82). -/
def Memory.frameAt (m : Memory) (f : Nat) : Half × Half := (m.readHalf (2 * f), m.readHalf (2 * f + 1))

theorem Memory.frameAt_eq_bytes (m : Memory) (f : Nat) :
    m.frameAt f = (m.read (4 * f + 1) ++ m.read (4 * f), m.read (4 * f + 3) ++ m.read (4 * f + 2)) := by
  simp only [Memory.frameAt, Memory.readHalf]
  rw [show 2 * (2 * f) = 4 * f by omega, show 2 * (2 * f + 1) = 4 * f + 2 by omega]

/-- What a transmit step does but for the event it may raise. -/
def transmitted (s : State) : State :=
  (s.emits (s.out.frameAt s.txPos).1 (s.out.frameAt s.txPos).2).setTxPos (txNext s.cfg s.txPos)

theorem exec_txFrame {s : State} (hpos : s.txPos < 2 * s.cfg.bufFrames) :
    exec .txFrame s = .next (raiseAt s.cfg s.txPos (transmitted s)) := by
  rcases execTxFrame_cases s with ⟨hout, _⟩ | ⟨_, h⟩
  · omega
  · exact h

/-- The event of a position stands at the head of the trace, if it has one. -/
theorem raiseAt_eq (c : Config) (p : Nat) (s : State) : raiseAt c p s = s.setTrace
    (if p + 1 = c.bufFrames then .event 1 :: s.trace
      else if p + 1 = 2 * c.bufFrames then .event 2 :: s.trace else s.trace) := by
  rcases raiseAt_cases c p s with ⟨hht, h⟩ | ⟨hht, htc, h⟩ | ⟨hht, htc, h⟩ <;> rw [h]
  · rw [if_pos hht]
    rfl
  · rw [if_neg hht, if_pos htc]
    rfl
  · rw [if_neg hht, if_neg htc]
    rfl

/-- Settles O52: the frame at the position, byte by byte, and the event of the position. -/
theorem txFrameEmitsALoopFrame : Obligations.TxFrameEmitsALoopFrame := by
  intro s
  constructor
  · intro hpos
    rw [exec_txFrame hpos, raiseAt_eq, transmitted, Memory.frameAt_eq_bytes]
    rfl
  · intro hout
    rcases execTxFrame_cases s with ⟨_, h⟩ | ⟨hpos, _⟩
    · exact h
    · omega

end Sys2Proof.Machine

/-! The proof on the transmitted stream (45_output_scheduler.md R278, R279). A trace is consumed entry by entry;
between two entries `InPeriod` holds, and the frames `pending` in the loop are the next to be transmitted: a
transmit step takes the first of them, a rendered frame is put behind the last. -/

namespace Sys2Proof.Machine

/-! ### The frames pending in the loop -/

/-- The loop position `q`, at most one turn ahead (45_output_scheduler.md R277). -/
def loopPos (c : Config) (q : Nat) : Nat := if q < 2 * c.bufFrames then q else q - 2 * c.bufFrames

/-- The next `n` frames the peripheral transmits if nothing is rendered meanwhile. -/
def pending (s : State) (n : Nat) : List (Half × Half) :=
  (List.range n).map fun j => s.out.frameAt (loopPos s.cfg (s.txPos + j))

theorem pending_congr {s u : State} (hcfg : u.cfg = s.cfg) (hout : u.out = s.out) (hpos : u.txPos = s.txPos)
    (n : Nat) : pending u n = pending s n := by
  rw [pending, pending, hcfg, hout, hpos]

/-- At the start of the loop, all of it is pending. -/
theorem pending_of_txPos_zero {s : State} (hpos : s.txPos = 0) :
    pending s (2 * s.cfg.bufFrames) = loopFrames s.cfg s.out := by
  refine List.map_congr_left fun j hj => ?_
  rw [hpos, Nat.zero_add, loopPos, if_pos (List.mem_range.1 hj)]
  rfl

theorem loopPos_txNext {c : Config} {p j : Nat} (hj : j < 2 * c.bufFrames) :
    loopPos c (txNext c p + j) = loopPos c (p + (j + 1)) := by
  unfold loopPos txNext
  split_ifs <;> omega

/-- A transmit step takes the first pending frame. -/
theorem pending_succ_eq_cons {s : State} (hpos : s.txPos < 2 * s.cfg.bufFrames) {n : Nat}
    (hn : n ≤ 2 * s.cfg.bufFrames) :
    pending s (n + 1) = s.out.frameAt s.txPos :: pending (transmitted s) n := by
  rw [pending, List.range_succ_eq_map, List.map_cons, List.map_map]
  congr 1
  · rw [Nat.add_zero, loopPos, if_pos hpos]
  · refine List.map_congr_left fun j hj => ?_
    have hj := List.mem_range.1 hj
    exact congrArg s.out.frameAt (loopPos_txNext (by omega)).symm

/-! ### The loop after a frame (44_render_engine.md R245) -/

theorem Memory.frameAt_writeFrame {m : Memory} (hwf : m.wf = true) {f g : Nat} {v : Half} :
    (m.writeFrame (2 * f) v).frameAt g = if g = f then (v, v) else m.frameAt g := by
  simp only [Memory.frameAt, Memory.writeFrame, Memory.readHalf_writeHalf (Memory.wf_writeHalf hwf),
    Memory.readHalf_writeHalf hwf]
  by_cases hg : g = f
  · subst hg
    simp
  · rw [if_neg hg, if_neg (by omega), if_neg (by omega), if_neg (by omega), if_neg (by omega)]

/-- The next frame of the fill, as it is transmitted. -/
def nextFrame (s : State) : Half × Half := (pcmWord (pcm s.voice.sample), pcmWord (pcm s.voice.sample))

/-- What a step of the render agent does during a fill. -/
def framed (s : State) : State := endFrame ((s.setVoice s.voice.afterSample).setOut (frameOut s))

@[simp] theorem framed_cfg (s : State) : (framed s).cfg = s.cfg := endFrame_cfg _
@[simp] theorem framed_voice (s : State) : (framed s).voice = s.voice.afterSample := endFrame_voice _
@[simp] theorem framed_snap (s : State) : (framed s).snap = s.snap := endFrame_snap _
@[simp] theorem framed_out (s : State) : (framed s).out = frameOut s := endFrame_out _
@[simp] theorem framed_txPos (s : State) : (framed s).txPos = s.txPos := endFrame_txPos _
@[simp] theorem framed_prevGate (s : State) : (framed s).rend.prevGate = s.rend.prevGate := endFrame_prevGate _

theorem endFrame_obs (s : State) : (endFrame s).obs = s.obs := by
  rcases endFrame_cases s with ⟨_, h⟩ | ⟨_, h⟩ <;> rw [h]

theorem endFrame_trace (s : State) : (endFrame s).trace = s.trace := by
  rcases endFrame_cases s with ⟨_, h⟩ | ⟨_, h⟩ <;> rw [h]

/-- A frame records no underrun (45_output_scheduler.md R268). -/
theorem framed_record (s : State) : (framed s).sched.underrunCount = s.sched.underrunCount ∧
    (framed s).sched.underrunFlag = s.sched.underrunFlag := endFrame_record _

@[simp] theorem framed_obs (s : State) : (framed s).obs = s.obs := endFrame_obs _
@[simp] theorem framed_trace (s : State) : (framed s).trace = s.trace := endFrame_trace _

/-- A frame rendered to the position behind the last pending one is pending next. -/
theorem pending_framed {s : State} (hwf : s.out.wf = true) {n : Nat}
    (hn : n < 2 * s.cfg.bufFrames)
    (hword : frameWord s s.rend.frameIdx.toNat = 2 * loopPos s.cfg (s.txPos + n)) :
    pending (framed s) (n + 1) = pending s n ++ [nextFrame s] := by
  have hout : (framed s).out = s.out.writeFrame (2 * loopPos s.cfg (s.txPos + n)) (nextFrame s).1 := by
    rw [framed_out, frameOut_eq_writeFrame, ← hword]
    rfl
  rw [pending, List.range_succ, List.map_append, hout, framed_cfg, framed_txPos]
  congr 1
  · refine List.map_congr_left fun j hj => ?_
    have hj := List.mem_range.1 hj
    rw [Memory.frameAt_writeFrame hwf, if_neg]
    unfold loopPos
    split_ifs <;> omega
  · rw [List.map_singleton, Memory.frameAt_writeFrame hwf, if_pos rfl]
    rfl

/-! ### What holds between two entries of a trace that meets its deadlines (45_output_scheduler.md R278) -/

/-- `k` frames of a half of the loop are transmitted and `left` frames of the running fill are to come, in
buffers of `b` frames; the fill is that of the half the peripheral is not in. -/
structure InPeriod (b k left : Nat) (s : State) : Prop where
  ok : s.Ok
  frames : s.cfg.bufFrames = b
  early : k < b
  pos : s.txPos = k ∨ s.txPos = b + k
  busy : s.sched.busy = true ↔ 0 < left
  index : 0 < left → s.rend.frameIdx.toNat + left = b
  target : 0 < left → s.sched.fillTarget = if s.txPos < b then .A else .B

/-- What a host access leaves unchanged: everything the stream depends on but the Voice and the banks. -/
structure OutputKept (s t : State) : Prop where
  cfg : t.cfg = s.cfg
  rend : t.rend = s.rend
  sched : t.sched = s.sched
  out : t.out = s.out
  txPos : t.txPos = s.txPos
  stream : t.obs.stream = s.obs.stream
  trace : t.trace = s.trace

theorem exec_row_outputKept {we : Bool} {row : HostRow} (h : row ∈ hostRows we) (data : Word) (s : State) :
    ∃ t, exec (row.make data) s = .next t ∧ OutputKept s t := by
  cases we with
  | false =>
    change row ∈ readRows at h
    fin_cases h <;> exact ⟨_, rfl, rfl, rfl, rfl, rfl, rfl, rfl, rfl⟩
  | true =>
    change row ∈ writeRows at h
    fin_cases h <;> exact ⟨_, rfl, rfl, rfl, rfl, rfl, rfl, rfl, rfl⟩

theorem exec_decodeFields_outputKept (we : Bool) (addr : Offset) (data : Word) (s : State) :
    ∃ t, exec (decodeFields we addr data) s = .next t ∧ OutputKept s t := by
  rcases decodeFields_cases we addr data with ⟨row, hmem, _, heq⟩ | ⟨_, heq⟩ <;> rw [heq]
  · exact exec_row_outputKept hmem data s
  · cases we with
    | false | true => exact ⟨_, rfl, rfl, rfl, rfl, rfl, rfl, rfl, rfl⟩

theorem step_of_decode {s : State} {sig : Signal} {rest : List Signal} {i : Instr} (htr : s.trace = sig :: rest)
    (hdec : decode sig = .instr i []) : step s = exec i (s.setTrace rest) :=
  step_of_fetch_run (fetch_of_decode_instr htr hdec)

theorem step_host {s : State} {x : Nat} {rest : List Signal} (htr : s.trace = .host x :: rest) (hx : x < 2 ^ 41) :
    ∃ u, step s = .next u ∧ OutputKept (s.setTrace rest) u := by
  have hdec : decode (.host x) = .instr (decodeFields (hostWe x) (hostAddr x) (hostData x)) [] := if_pos hx
  rw [step_of_decode htr hdec]
  exact exec_decodeFields_outputKept _ _ _ _

namespace InPeriod
variable {b k left : Nat} {s u : State}

theorem setTrace (h : InPeriod b k left s) (tr : List Signal) : InPeriod b k left (s.setTrace tr) :=
  ⟨h.ok.setTrace tr, h.frames, h.early, h.pos, h.busy, h.index, h.target⟩

theorem outputKept (h : InPeriod b k left s) (hu : u.Ok) (hk : OutputKept s u) : InPeriod b k left u where
  ok := hu
  frames := hk.cfg ▸ h.frames
  early := h.early
  pos := hk.txPos ▸ h.pos
  busy := hk.sched ▸ h.busy
  index := hk.rend ▸ h.index
  target := by rw [hk.sched, hk.txPos]; exact h.target

theorem left_le (h : InPeriod b k left s) : left ≤ b := by
  rcases Nat.eq_zero_or_pos left with hzero | hpos
  · omega
  · have := h.index hpos
    omega

theorem txPos_lt (h : InPeriod b k left s) : s.txPos < 2 * s.cfg.bufFrames := h.ok.txPos

/-- The next frame of the fill goes behind the last pending one. -/
theorem frameWord_eq (h : InPeriod b k left s) (hleft : 0 < left) :
    frameWord s s.rend.frameIdx.toNat = 2 * loopPos s.cfg (s.txPos + (2 * b - k - left)) := by
  have hidx := h.index hleft
  have hearly := h.early
  have hframes := h.frames
  have hpos := h.pos
  rw [frameWord, h.target hleft, loopPos]
  split_ifs <;> simp only [bufBase] <;> omega

theorem afterFrame (h : InPeriod b k (left + 1) s) : InPeriod b k left (framed s) := by
  have hbusy := h.busy.2 (Nat.succ_pos left)
  have hidx := h.index (Nat.succ_pos left)
  have htarget := h.target (Nat.succ_pos left)
  have hframes := h.frames
  have hok := ((h.ok.setVoice h.ok.voice.afterSample).setOut h.ok.frameOut).endFrame hbusy
  rw [framed]
  rcases endFrame_cases ((s.setVoice s.voice.afterSample).setOut (frameOut s))
    with ⟨hlast, hend⟩ | ⟨hmore, hend⟩ <;> rw [hend] at hok ⊢
  · have hlast : s.rend.frameIdx.toNat + 1 = s.cfg.bufFrames := hlast
    have hleft : left = 0 := by omega
    subst hleft
    exact ⟨hok, hframes, h.early, h.pos, iff_of_false Bool.false_ne_true (Nat.lt_irrefl 0),
      fun hpos => absurd hpos (Nat.lt_irrefl 0), fun hpos => absurd hpos (Nat.lt_irrefl 0)⟩
  · have hmore : s.rend.frameIdx.toNat + 1 ≠ s.cfg.bufFrames := hmore
    have hlimit := bufFrames_le h.ok.cfg
    have hnext : (s.rend.frameIdx + 1#15).toNat = s.rend.frameIdx.toNat + 1 := by
      rw [BitVec.toNat_add, BitVec.toNat_ofNat]
      omega
    refine ⟨hok, hframes, h.early, h.pos, iff_of_true hbusy (by omega), fun _ => ?_, fun _ => htarget⟩
    change (s.rend.frameIdx + 1#15).toNat + left = b
    omega

theorem transmitted_ok (h : InPeriod b k left s) : (transmitted s).Ok :=
  (h.ok.setObs _).setTxPos (txNext_lt h.ok.cfg h.txPos_lt)

theorem txNext_eq (h : InPeriod b k left s) :
    txNext s.cfg s.txPos = if s.txPos + 1 = 2 * b then 0 else s.txPos + 1 := by
  rw [txNext, h.frames]

/-- Inside a half of the loop a transmit step only counts its frame. -/
theorem afterTransmit (h : InPeriod b k left s) (hk : k + 1 ≠ b) : InPeriod b (k + 1) left (transmitted s) := by
  have hearly := h.early
  have hpos := h.pos
  have hnext : (transmitted s).txPos = s.txPos + 1 := by
    refine h.txNext_eq.trans (if_neg ?_)
    omega
  refine ⟨h.transmitted_ok, h.frames, by omega, by omega, h.busy, h.index, fun hleft => ?_⟩
  have hhalf : s.txPos + 1 < b ↔ s.txPos < b := by omega
  exact (h.target hleft).trans (by simp only [hnext, hhalf])

/-- At the end of a half the event starts the fill of that half (45_output_scheduler.md R264, R277). -/
theorem afterEvent (h : InPeriod b k 0 s) (hk : k + 1 = b) :
    InPeriod b 0 b (startFill (if s.txPos + 1 = b then .B else .A) (transmitted s)) := by
  have hpos := h.pos
  have hnext : (transmitted s).txPos = if s.txPos + 1 = 2 * b then 0 else s.txPos + 1 := h.txNext_eq
  have hb : 0 < b := by omega
  refine ⟨h.transmitted_ok.startFill _, h.frames, hb, ?_, iff_of_true rfl hb, fun _ => Nat.zero_add b, fun _ => ?_⟩
  · change (transmitted s).txPos = 0 ∨ (transmitted s).txPos = b + 0
    rw [hnext]
    split_ifs <;> omega
  · change (if s.txPos + 1 = b then Buffer.B else .A) = if (transmitted s).txPos < b then .A else .B
    rcases hpos with hpos | hpos
    · have hnext : (transmitted s).txPos = b := by
        rw [hnext, if_neg (by omega)]
        omega
      rw [hnext, if_pos (by omega), if_neg (Nat.lt_irrefl b)]
    · rw [hnext, if_pos (show s.txPos + 1 = 2 * b by omega), if_neg (by omega), if_pos hb]

end InPeriod

/-! ### The steps of a trace that meets its deadlines -/

theorem step_event {s : State} {e : Nat} {buf : Buffer} {i : Instr} (hdec : decode (.event e) = .instr i [])
    (hexec : ∀ u, exec i u = .next (takeEvent buf u)) (hidle : s.sched.busy = false) :
    step (s.setTrace (.event e :: s.trace)) = .next (startFill buf s) := by
  have hrest : (s.setTrace (.event e :: s.trace)).setTrace s.trace = s := rfl
  rw [step_of_decode (State.setTrace_trace _ s) hdec, hrest, hexec, takeEvent_of_idle hidle]

section Steps
variable {b k left : Nat} {s : State} {rest : List Signal}

theorem InPeriod.step_frame (h : InPeriod b k (left + 1) s) (htr : s.trace = .frame :: rest) :
    step s = .next (framed (s.setTrace rest)) := by
  rw [step_of_decode htr rfl]
  exact exec_renderFrame (h.busy.2 (Nat.succ_pos left)) h.ok.sequencing.index

theorem InPeriod.step_transmit (h : InPeriod b k left s) (htr : s.trace = .transmit :: rest) :
    step s = .next (raiseAt s.cfg s.txPos (transmitted (s.setTrace rest))) := by
  rw [step_of_decode htr rfl]
  exact exec_txFrame h.txPos_lt

theorem InPeriod.step_transmit_inside (h : InPeriod b k left s) (htr : s.trace = .transmit :: rest)
    (hk : k + 1 ≠ b) : step s = .next (transmitted (s.setTrace rest)) := by
  have hpos := h.pos
  have hframes := h.frames
  have hearly := h.early
  rw [h.step_transmit htr]
  rcases raiseAt_cases s.cfg s.txPos (transmitted (s.setTrace rest))
    with ⟨hht, _⟩ | ⟨_, htc, _⟩ | ⟨_, _, hr⟩
  · omega
  · omega
  · rw [hr]

/-- At the end of a half the raised event is the next step, and with the fill of the other half done it
starts a fill (entry 5). -/
theorem InPeriod.step_transmit_event (h : InPeriod b k 0 s) (htr : s.trace = .transmit :: rest)
    (hk : k + 1 = b) : ∃ e raised, raised.trace = .event e :: rest ∧ step s = .next raised ∧
      step raised = .next (startFill (if s.txPos + 1 = b then .B else .A)
        (transmitted (s.setTrace rest))) := by
  have hpos := h.pos
  have hframes := h.frames
  have hidle : s.sched.busy = false := Bool.eq_false_iff.2 fun hbusy => Nat.lt_irrefl 0 (h.busy.1 hbusy)
  rw [h.step_transmit htr, raiseAt_eq]
  by_cases hht : s.txPos + 1 = b
  · rw [if_pos (by omega), if_pos hht]
    exact ⟨1, _, rfl, rfl, step_event rfl (fun _ => rfl) hidle⟩
  · rw [if_neg (by omega), if_pos (by omega), if_neg hht]
    exact ⟨2, _, rfl, rfl, step_event rfl (fun _ => rfl) hidle⟩

end Steps

/-! ### The block start of an unchanged snapshot (44_render_engine.md R241, R249) -/

/-- The registers a block start would derive are derived already, and there is no gate edge. -/
structure Settled (s : State) : Prop where
  derived : s.voice.derived = (s.voice.derive s.cfg s.snap.published).derived
  gate : s.rend.prevGate = gateOf s.snap.published.gate

/-- The derivation writes the derived registers, and they come from the parameters and the snapshot alone. -/
theorem Voice.derive_derived (c : Config) (b : Snapshot) (v w : Voice) :
    (v.derive c b).derived = (w.derive c b).derived := rfl

theorem Voice.derive_eq_self {c : Config} {b : Snapshot} {v : Voice} (h : v.derived = (v.derive c b).derived) :
    v.derive c b = v := by
  have hderive : v.derive c b = { v with
      osc.waveform := (v.derive c b).osc.waveform
      flt.cutoffCoefficient := (v.derive c b).flt.cutoffCoefficient
      flt.resonance := (v.derive c b).flt.resonance
      env.attackTime := (v.derive c b).env.attackTime
      env.decayTime := (v.derive c b).env.decayTime
      env.releaseTime := (v.derive c b).env.releaseTime
      env.sustainLevel := (v.derive c b).env.sustainLevel } := rfl
  simp only [Voice.derived, Envelope.params, Prod.mk.injEq] at h
  obtain ⟨hwave, hcoef, hres, hattack, hdecay, hrelease, hsustain⟩ := h
  rw [hderive, ← hwave, ← hcoef, ← hres, ← hattack, ← hdecay, ← hrelease, ← hsustain]

theorem Voice.gateEdge_derived (c : Config) (f : Word) (now before : Bool) (v : Voice) :
    (v.gateEdge c f now before).derived = v.derived := by
  rcases v.gateEdge_cases c f now before with ⟨_, _, h⟩ | ⟨_, _, h⟩ | ⟨_, h⟩ <;> simp [h]

theorem Voice.gateEdge_self (c : Config) (f : Word) (now : Bool) (v : Voice) : v.gateEdge c f now now = v := by
  cases now <;> rfl

theorem Settled.blockStart_voice {s : State} (h : Settled s) : (blockStart s).voice = s.voice := by
  rw [Machine.blockStart_voice, Voice.derive_eq_self h.derived, h.gate, Voice.gateEdge_self]

theorem settled_blockStart (s : State) : Settled (blockStart s) where
  derived := Voice.gateEdge_derived _ _ _ _ _
  gate := rfl

theorem Settled.framed {s : State} (h : Settled s) : Settled (framed s) where
  derived := by
    rw [framed_voice, framed_cfg, framed_snap, Voice.afterSample_derived, h.derived]
    rfl
  gate := by rw [framed_prevGate, framed_snap, h.gate]

/-! ### What a trace delivers (45_output_scheduler.md R279) -/

/-- The events that the transmit steps of a trace raise, with `k` frames transmitted since the last one. -/
def eventsIn (b k : Nat) (l : List Signal) : Nat := (k + l.count .transmit) / b

section Count
variable {b k : Nat} {sig : Signal} {l : List Signal}

theorem eventsIn_cons_of_ne (h : sig ≠ .transmit) : eventsIn b k (sig :: l) = eventsIn b k l := by
  rw [eventsIn, eventsIn, List.count_cons_of_ne h]

theorem eventsIn_cons_transmit : eventsIn b k (.transmit :: l) = eventsIn b (k + 1) l := by
  rw [eventsIn, eventsIn, List.count_cons_self]
  congr 1
  omega

theorem eventsIn_cons_event (hk : k + 1 = b) : eventsIn b k (.transmit :: l) = eventsIn b 0 l + 1 := by
  rw [eventsIn_cons_transmit, eventsIn, eventsIn, hk, Nat.zero_add]
  exact Nat.add_div_left _ (by omega)

end Count

/-- The trace `l`, begun in `s`, leaves `t` and renders the frames `rendered` meanwhile. -/
structure Delivery (b k left : Nat) (l : List Signal) (s t : State) (rendered : List (Half × Half)) : Prop where
  stream : t.obs.stream = s.obs.stream ++ (pending s (2 * b - k - left) ++ rendered).take (l.count .transmit)
  count : t.sched.underrunCount = s.sched.underrunCount
  flag : t.sched.underrunFlag = s.sched.underrunFlag
  busy : t.sched.busy = true ↔ l.count .frame < left + b * eventsIn b k l
  trace : t.trace = []
  voice : left = 0 ∨ Settled s → (∀ x, Signal.host x ∉ l) →
    rendered = renderedFrames (l.count .frame) (blockStart s).voice

theorem renderedFrames_succ (n : Nat) (v : Voice) :
    renderedFrames (n + 1) v = (pcmWord (pcm v.sample), pcmWord (pcm v.sample)) :: renderedFrames n v.afterSample := by
  rw [renderedFrames, List.range_succ_eq_map, List.map_cons, List.map_map]
  rfl

section Delivery
variable {b k left : Nat} {s t u : State} {rest : List Signal} {rendered : List (Half × Half)}

theorem InPeriod.delivery_nil (h : InPeriod b k left s) (htr : s.trace = []) : Delivery b k left [] s s [] where
  stream := (List.append_nil _).symm
  count := rfl
  flag := rfl
  busy := by
    rw [h.busy, eventsIn, List.count_nil, List.count_nil, Nat.add_zero, Nat.div_eq_of_lt h.early]
    rfl
  trace := htr
  voice _ _ := rfl

/-- A host access delivers nothing itself. -/
theorem Delivery.host {x : Nat} (hd : Delivery b k left rest u t rendered) (hu : OutputKept s u) :
    Delivery b k left (.host x :: rest) s t rendered where
  stream := by
    rw [hd.stream, hu.stream, pending_congr hu.cfg hu.out hu.txPos, List.count_cons_of_ne (by simp)]
  count := by rw [hd.count, hu.sched]
  flag := by rw [hd.flag, hu.sched]
  busy := by rw [hd.busy, eventsIn_cons_of_ne (by simp), List.count_cons_of_ne (by simp)]
  trace := hd.trace
  voice _ hhost := absurd List.mem_cons_self (hhost x)

/-- A frame puts itself behind the last pending one. -/
theorem Delivery.frame (h : InPeriod b k (left + 1) s) (hd : Delivery b k left rest (framed s) t rendered) :
    Delivery b k (left + 1) (.frame :: rest) s t (nextFrame s :: rendered) where
  stream := by
    have hearly := h.early
    have hle := h.left_le
    have hframes := h.frames
    have hpending := pending_framed h.ok.out.form (by omega) (h.frameWord_eq (Nat.succ_pos left))
    rw [show 2 * b - k - (left + 1) + 1 = 2 * b - k - left by omega] at hpending
    rw [hd.stream, hpending, framed_obs, List.count_cons_of_ne (by simp), List.append_assoc]
    rfl
  count := hd.count.trans (framed_record s).1
  flag := hd.flag.trans (framed_record s).2
  busy := by
    rw [hd.busy, eventsIn_cons_of_ne (by simp), List.count_cons_self]
    omega
  trace := hd.trace
  voice hset hhost := by
    have hset : Settled s := hset.resolve_left (Nat.succ_ne_zero left)
    have hrest := hd.voice (.inr hset.framed) fun x hx => hhost x (List.mem_cons_of_mem _ hx)
    rw [hrest, List.count_cons_self, renderedFrames_succ, hset.framed.blockStart_voice, hset.blockStart_voice,
      framed_voice]
    rfl

/-- A transmit step emits the first pending frame. -/
theorem InPeriod.stream_transmitted (h : InPeriod b k left s)
    (hstream : t.obs.stream = (transmitted s).obs.stream ++
      (pending (transmitted s) (2 * b - (k + 1) - left) ++ rendered).take (rest.count .transmit)) :
    t.obs.stream = s.obs.stream ++
      (pending s (2 * b - k - left) ++ rendered).take ((Signal.transmit :: rest).count .transmit) := by
  have hearly := h.early
  have hle := h.left_le
  have hframes := h.frames
  have hpending := pending_succ_eq_cons h.txPos_lt (n := 2 * b - (k + 1) - left) (by omega)
  rw [show 2 * b - (k + 1) - left + 1 = 2 * b - k - left by omega] at hpending
  have hemit : (transmitted s).obs.stream = s.obs.stream ++ [s.out.frameAt s.txPos] := rfl
  rw [hstream, hpending, hemit, List.count_cons_self, List.cons_append, List.take_succ_cons, List.append_assoc]
  rfl

theorem Delivery.transmit (h : InPeriod b k left s) (hd : Delivery b (k + 1) left rest (transmitted s) t rendered) :
    Delivery b k left (.transmit :: rest) s t rendered where
  stream := h.stream_transmitted hd.stream
  count := hd.count
  flag := hd.flag
  busy := by rw [hd.busy, eventsIn_cons_transmit, List.count_cons_of_ne (by simp)]
  trace := hd.trace
  voice hset hhost := by
    rw [hd.voice (hset.imp_right fun hs => ⟨hs.derived, hs.gate⟩) fun x hx => hhost x (List.mem_cons_of_mem _ hx),
      List.count_cons_of_ne (by simp)]
    rfl

/-- With the event the whole block is to come, and its block start is the one of the frames to come. -/
theorem Delivery.event {buf : Buffer} (h : InPeriod b k 0 s) (hk : k + 1 = b)
    (hd : Delivery b 0 b rest (startFill buf (transmitted s)) t rendered) :
    Delivery b k 0 (.transmit :: rest) s t rendered where
  stream := by
    refine h.stream_transmitted ?_
    rw [show 2 * b - (k + 1) - 0 = 2 * b - 0 - b by omega]
    exact hd.stream
  count := hd.count
  flag := hd.flag
  busy := by
    rw [hd.busy, eventsIn_cons_event hk, List.count_cons_of_ne (by simp), Nat.mul_succ]
    omega
  trace := hd.trace
  voice _ hhost := by
    have hset : Settled (startFill buf (transmitted s)) := settled_blockStart _
    rw [hd.voice (.inr hset) fun x hx => hhost x (List.mem_cons_of_mem _ hx), hset.blockStart_voice,
      List.count_cons_of_ne (by simp)]
    rfl

end Delivery

/-! ### The stream of a whole trace (45_output_scheduler.md R279) -/

/-- The steps of a trace: its own entries and the events they raise (entry 5). -/
def stepsOf (b k : Nat) (l : List Signal) : Nat := l.length + eventsIn b k l

/-- From `s` the steps of the trace `l` run, and deliver what they must. -/
def Delivers (b k left : Nat) (l : List Signal) (s : State) : Prop :=
  ∃ t, runSteps (stepsOf b k l) s = .next t ∧ Delivery b k left l s t (producedFrames (stepsOf b k l) s)

theorem stepsOf_cons_of_ne {b k : Nat} {sig : Signal} {l : List Signal} (h : sig ≠ .transmit) :
    stepsOf b k (sig :: l) = stepsOf b k l + 1 := by
  rw [stepsOf, stepsOf, eventsIn_cons_of_ne h, List.length_cons, Nat.add_right_comm]

theorem stepsOf_cons_transmit (b k : Nat) (l : List Signal) :
    stepsOf b k (.transmit :: l) = stepsOf b (k + 1) l + 1 := by
  rw [stepsOf, stepsOf, eventsIn_cons_transmit, List.length_cons, Nat.add_right_comm]

theorem stepsOf_cons_event {b k : Nat} {l : List Signal} (hk : k + 1 = b) :
    stepsOf b k (.transmit :: l) = stepsOf b 0 l + 1 + 1 := by
  rw [stepsOf, stepsOf, eventsIn_cons_event hk, List.length_cons]
  omega

theorem producedFrames_of_frame {s u : State} {rest : List Signal} (htr : s.trace = .frame :: rest)
    (h : step s = .next u) (n : Nat) : producedFrames (n + 1) s = nextFrame s :: producedFrames n u := by
  simp only [producedFrames, h, htr, List.head?_cons, if_true]
  rfl

theorem producedFrames_of_ne {s u : State} {sig : Signal} {rest : List Signal} (htr : s.trace = sig :: rest)
    (hsig : sig ≠ .frame) (h : step s = .next u) (n : Nat) : producedFrames (n + 1) s = producedFrames n u := by
  simp [producedFrames, h, htr, hsig]

/-- What a state delivers does not depend on its own trace. -/
theorem Delivery.of_setTrace {b k left : Nat} {l tr : List Signal} {s t : State} {rendered : List (Half × Half)}
    (hd : Delivery b k left l (s.setTrace tr) t rendered) : Delivery b k left l s t rendered where
  stream := hd.stream
  count := hd.count
  flag := hd.flag
  busy := hd.busy
  trace := hd.trace
  voice hset := hd.voice (hset.imp_right fun hs => ⟨hs.derived, hs.gate⟩)

section Delivers
variable {b k left : Nat} {s u : State} {rest : List Signal}

theorem InPeriod.delivers_nil (h : InPeriod b k left s) (htr : s.trace = []) : Delivers b k left [] s := by
  have hsteps : stepsOf b k [] = 0 := Nat.div_eq_of_lt h.early ▸ Nat.zero_add _
  rw [Delivers, hsteps]
  exact ⟨s, rfl, h.delivery_nil htr⟩

theorem Delivers.host {x : Nat} (hd : Delivers b k left rest u) (hu : OutputKept (s.setTrace rest) u)
    (htr : s.trace = .host x :: rest) (hstep : step s = .next u) : Delivers b k left (.host x :: rest) s := by
  obtain ⟨t, hrun, hd⟩ := hd
  rw [Delivers, stepsOf_cons_of_ne (by simp), runSteps_succ_of_next hstep, producedFrames_of_ne htr (by simp) hstep]
  exact ⟨t, hrun, (hd.host hu).of_setTrace⟩

theorem InPeriod.delivers_frame (h : InPeriod b k (left + 1) s) (htr : s.trace = .frame :: rest)
    (hd : Delivers b k left rest (framed (s.setTrace rest))) : Delivers b k (left + 1) (.frame :: rest) s := by
  obtain ⟨t, hrun, hd⟩ := hd
  have hstep := h.step_frame htr
  rw [Delivers, stepsOf_cons_of_ne (by simp), runSteps_succ_of_next hstep, producedFrames_of_frame htr hstep]
  exact ⟨t, hrun, (hd.frame (h.setTrace rest)).of_setTrace⟩

theorem InPeriod.delivers_transmit (h : InPeriod b k left s) (htr : s.trace = .transmit :: rest) (hk : k + 1 ≠ b)
    (hd : Delivers b (k + 1) left rest (transmitted (s.setTrace rest))) :
    Delivers b k left (.transmit :: rest) s := by
  obtain ⟨t, hrun, hd⟩ := hd
  have hstep := h.step_transmit_inside htr hk
  rw [Delivers, stepsOf_cons_transmit, runSteps_succ_of_next hstep, producedFrames_of_ne htr (by simp) hstep]
  exact ⟨t, hrun, (hd.transmit (h.setTrace rest)).of_setTrace⟩

theorem InPeriod.delivers_event (h : InPeriod b k 0 s) (htr : s.trace = .transmit :: rest) (hk : k + 1 = b)
    (hd : Delivers b 0 b rest (startFill (if s.txPos + 1 = b then .B else .A) (transmitted (s.setTrace rest)))) :
    Delivers b k 0 (.transmit :: rest) s := by
  obtain ⟨t, hrun, hd⟩ := hd
  obtain ⟨e, raised, hraised, hstep, hevent⟩ := h.step_transmit_event htr hk
  rw [Delivers, stepsOf_cons_event hk, runSteps_succ_of_next hstep, runSteps_succ_of_next hevent,
    producedFrames_of_ne htr (by simp) hstep, producedFrames_of_ne hraised (by simp) hevent]
  exact ⟨t, hrun, (hd.event (h.setTrace rest) hk).of_setTrace⟩

end Delivers

/-- Entry by entry, a trace that meets its deadlines delivers. -/
theorem delivers_of_deadlineMet {b : Nat} {l : List Signal} {k left : Nat} {s : State} (h : InPeriod b k left s)
    (htr : s.trace = l) (hmet : deadlineMet b k left l = true) : Delivers b k left l s := by
  induction l generalizing k left s with
  | nil => exact h.delivers_nil htr
  | cons sig rest ih =>
    cases sig with
    | event | reset => cases hmet
    | host x =>
      simp only [deadlineMet, Bool.and_eq_true, decide_eq_true_eq] at hmet
      obtain ⟨hx, hmet⟩ := hmet
      obtain ⟨u, hstep, hu⟩ := step_host htr hx
      have hperiod := (h.setTrace rest).outputKept (everyStepKeepsLegality s u h.ok hstep) hu
      exact (ih hperiod hu.trace hmet).host hu htr hstep
    | frame =>
      simp only [deadlineMet, Bool.and_eq_true, decide_eq_true_eq] at hmet
      obtain ⟨hleft, hmet⟩ := hmet
      obtain ⟨left, rfl⟩ := Nat.exists_eq_add_of_le' hleft
      exact h.delivers_frame htr (ih (h.setTrace rest).afterFrame (framed_trace _) hmet)
    | transmit =>
      rw [deadlineMet] at hmet
      by_cases hk : k + 1 = b
      · rw [if_pos hk, Bool.and_eq_true, decide_eq_true_eq] at hmet
        obtain ⟨rfl, hmet⟩ := hmet
        exact h.delivers_event htr hk (ih ((h.setTrace rest).afterEvent hk) rfl hmet)
      · rw [if_neg hk] at hmet
        exact h.delivers_transmit htr hk (ih ((h.setTrace rest).afterTransmit hk) rfl hmet)

/-- Between fills, with the peripheral at the start of the loop, a period begins. -/
theorem State.Ok.inPeriod {s : State} (hs : s.Ok) (hidle : s.sched.busy = false) (hpos : s.txPos = 0) :
    InPeriod s.cfg.bufFrames 0 0 s where
  ok := hs
  frames := rfl
  early := one_le_bufFrames hs.cfg
  pos := .inl hpos
  busy := iff_of_false (fun hbusy => Bool.false_ne_true (hidle.symm.trans hbusy)) (Nat.lt_irrefl 0)
  index h := absurd h (Nat.lt_irrefl 0)
  target h := absurd h (Nat.lt_irrefl 0)

/-- Settles O59: from the start of the loop all of it is pending, and no frame is to come. -/
theorem transmittedStreamIsTheRenderedStream : Obligations.TransmittedStreamIsTheRenderedStream := by
  intro s l n hs hidle hpos htr hmet hn
  have hevents : eventsIn s.cfg.bufFrames 0 l = l.count .transmit / s.cfg.bufFrames := by
    rw [eventsIn, Nat.zero_add]
  have hsteps : n = stepsOf s.cfg.bufFrames 0 l := by rw [hn, stepsOf, hevents]
  subst hsteps
  obtain ⟨t, hrun, hd⟩ := delivers_of_deadlineMet (hs.inPeriod hidle hpos) htr hmet
  refine ⟨t, hrun, ?stream, hd.count, hd.flag, ?busy, hd.trace, hd.voice (.inl rfl)⟩
  case stream =>
    rw [← pending_of_txPos_zero hpos]
    exact hd.stream
  case busy => rw [hd.busy, hevents, Nat.zero_add]

end Sys2Proof.Machine

/-! The proofs of the host interface family: the read-only registers (46_host_interface.md R295, R296), the
nine fields of the two snapshot banks (R293, R300, R301), and the publish (R294). -/

namespace Sys2Proof.Machine

/-! ### What a host read leaves (30_encoding.md R111) -/

theorem hostReturns_eq_hostRead (v : Word) (s : State) : s.hostReturns v = hostRead v s := rfl

/-! ### The read-only registers (46_host_interface.md R295, R296) -/

theorem bufferCode_eq_ite (b : Buffer) : bufferCode b = if b = .B then 1 else 0 := by
  cases b with
  | A | B => rfl

/-- The sum of R295: a flag's number is 1 where it is set, a buffer's is 1 for `B`. -/
theorem statusWord_eq_sum (s : State) : statusWord s = BitVec.ofNat 32
    ((if s.sched.busy then 1 else 0) + 2 * (if s.sched.own = .B then 1 else 0)
      + 4 * (if s.sched.underrunFlag then 1 else 0) + 8 * (if s.voice.active then 1 else 0)
      + 16 * stageCode s.voice.env.stage
      + 128 * (if s.snap.pubIdx then 1 else 0) + 256 * (if s.sched.fillTarget = .B then 1 else 0)
      + 512 * (if s.rend.prevGate then 1 else 0)) := by
  simp only [statusWord, bufferCode_eq_ite, Bool.toNat, cond_eq_ite]

theorem exec_readStatus (data : Word) (s : State) :
    exec (.readStatus data) s = .next (hostRead (statusWord s) s) := rfl

theorem exec_readUnderrunCount (data : Word) (s : State) :
    exec (.readUnderrunCount data) s = .next (hostRead s.sched.underrunCount s) := rfl

/-! ### A write to a read-only offset (46_host_interface.md R295, R296) -/

/-- A write to a pair without a row does nothing (30_encoding.md R137). -/
theorem exec_reservedWrite (addr : Offset) (data : Word) (s : State) :
    exec (.reservedAccess true addr data) s = .next s := rfl

/-- The word of a write to a pair without a row decodes to the access that does nothing. -/
theorem decode_reservedWrite {addr : Offset} (hres : isReserved true addr = true) (data : Word) :
    decode (.host (2 ^ 40 + addr.toNat * 2 ^ 32 + data.toNat)) = .instr (.reservedAccess true addr data) [] := by
  rw [← hostWord_true_eq, decode_hostWord, (decodeFields_eq_reservedAccess_iff _ _ _).2 hres]

/-- Settles O9: the value read is the sum of R295, and no write row has the offset 0x00. -/
theorem statusReadAssemblesTheFlags : Obligations.StatusReadAssemblesTheFlags := by
  intro data s
  refine ⟨?read, exec_reservedWrite _ data s, decode_reservedWrite (addr := 0x00#8) rfl data⟩
  rw [exec_readStatus, statusWord_eq_sum]
  rfl

/-- Settles O10: the read copies the counter, and no write row has the offset 0x04. -/
theorem underrunCountReadsAndStays : Obligations.UnderrunCountReadsAndStays :=
  fun data s => ⟨exec_readUnderrunCount data s, exec_reservedWrite _ data s,
    decode_reservedWrite (addr := 0x04#8) rfl data⟩

/-! ### The fields of the two banks (46_host_interface.md R293, R300, R301) -/

/-- The operation that reads a staging field (46_host_interface.md R301). -/
def stagingRead : Field → Word → Instr
  | .waveform => .readWaveform
  | .cutoff => .readCutoff
  | .resonance => .readResonance
  | .attackMs => .readAttackMs
  | .decayMs => .readDecayMs
  | .sustain => .readSustain
  | .releaseMs => .readReleaseMs
  | .noteFreq => .readNoteFreq
  | .gate => .readGate

/-- The operation that reads a published field (46_host_interface.md R300). -/
def publishedRead : Field → Word → Instr
  | .waveform => .readPubWaveform
  | .cutoff => .readPubCutoff
  | .resonance => .readPubResonance
  | .attackMs => .readPubAttackMs
  | .decayMs => .readPubDecayMs
  | .sustain => .readPubSustain
  | .releaseMs => .readPubReleaseMs
  | .noteFreq => .readPubNoteFreq
  | .gate => .readPubGate

theorem stagingBank_eq (s : State) : stagingBank s = s.snap.staging := rfl

/-- Setting a field of the staging bank is a change of that bank alone, whichever of the two it is. -/
theorem writeStaging_eq_stagingChanged (f : Field) (v : Word) (s : State) :
    writeStaging f v s = stagingChanged (Snapshot.set f v) s := by
  rw [writeStaging, stagingChanged, Banks.setStaging, Banks.staging]
  split
  · rfl
  · rfl

theorem exec_stagingWrite (f : Field) (data : Word) (s : State) :
    exec (stagingWrite f data) s = .next (stagingChanged (Snapshot.set f data) s) := by
  rw [← writeStaging_eq_stagingChanged]
  cases f with
  | waveform | cutoff | resonance | attackMs | decayMs | sustain | releaseMs | noteFreq | gate => rfl

theorem exec_stagingRead (f : Field) (data : Word) (s : State) :
    exec (stagingRead f data) s = .next (hostRead ((stagingBank s).get f) s) := by
  rw [stagingBank_eq, ← hostReturns_eq_hostRead]
  cases f with
  | waveform | cutoff | resonance | attackMs | decayMs | sustain | releaseMs | noteFreq | gate => rfl

theorem exec_publishedRead (f : Field) (data : Word) (s : State) :
    exec (publishedRead f data) s = .next (hostRead ((publishedBank s).get f) s) := by
  rw [publishedBank_eq, ← hostReturns_eq_hostRead]
  cases f with
  | waveform | cutoff | resonance | attackMs | decayMs | sustain | releaseMs | noteFreq | gate => rfl

/-- Settles O12: the write of each field. -/
theorem stagingWritesStoreThePattern : Obligations.StagingWritesStoreThePattern := by
  intro data s
  have hwrite (f : Field) := exec_stagingWrite f data s
  exact ⟨hwrite .waveform, hwrite .cutoff, hwrite .resonance, hwrite .attackMs, hwrite .decayMs,
    hwrite .sustain, hwrite .releaseMs, hwrite .noteFreq, hwrite .gate⟩

/-- Settles O13: the staging read of each field. -/
theorem stagingReadsReturnTheStagingBank : Obligations.StagingReadsReturnTheStagingBank := by
  intro data s
  have hread (f : Field) := exec_stagingRead f data s
  exact ⟨hread .waveform, hread .cutoff, hread .resonance, hread .attackMs, hread .decayMs,
    hread .sustain, hread .releaseMs, hread .noteFreq, hread .gate⟩

/-- Settles O14: the published read of each field. -/
theorem publishedReadsReturnThePublishedBank : Obligations.PublishedReadsReturnThePublishedBank := by
  intro data s
  have hread (f : Field) := exec_publishedRead f data s
  exact ⟨hread .waveform, hread .cutoff, hread .resonance, hread .attackMs, hread .decayMs,
    hread .sustain, hread .releaseMs, hread .noteFreq, hread .gate⟩

/-! ### The publish (46_host_interface.md R294) -/

theorem exec_writePublish (data : Word) (s : State) :
    exec (.writePublish data) s = .next (s.setSnap s.snap.publish) := rfl

@[simp] theorem Banks.publish_publish (b : Banks) : b.publish.publish = b := by
  simp [Banks.publish]

theorem publishedBank_setSnap_publish (s : State) : publishedBank (s.setSnap s.snap.publish) = stagingBank s := by
  rw [publishedBank_eq, State.setSnap_snap, Banks.published_publish, stagingBank_eq]

theorem stagingBank_setSnap_publish (s : State) : stagingBank (s.setSnap s.snap.publish) = publishedBank s := by
  rw [stagingBank_eq, State.setSnap_snap, Banks.staging_publish, publishedBank_eq]

/-- Inverting the index twice gives it back. -/
theorem setSnap_publish_twice (s : State) :
    (s.setSnap s.snap.publish).setSnap (s.setSnap s.snap.publish).snap.publish = s := by
  rw [State.setSnap_snap, Banks.publish_publish]
  rfl

/-- Settles O15: the inverted index swaps the two views of the banks, and inverted twice it is itself. -/
theorem publishSwapsTheBanks : Obligations.PublishSwapsTheBanks := by
  intro data data' s
  refine ⟨exec_writePublish data s, fun t ht => ?swap, ?cancel⟩
  case swap =>
    obtain rfl := Host.Outcome.next.inj ht
    exact ⟨publishedBank_setSnap_publish s, stagingBank_setSnap_publish s⟩
  case cancel =>
    simp only [execAll, exec_writePublish, setSnap_publish_twice]

end Sys2Proof.Machine

/-! The proofs of the exceptions family and of the reset and hazards family: what a step does when no operation is
presented (60_exceptions.md R352, 70_reset_and_hazards.md R361), that a legal state never faults (60_exceptions.md
R320), and the two events at once (R331). -/

namespace Sys2Proof.Machine

/-! ### A frame while no fill runs (70_reset_and_hazards.md R382) -/

theorem exec_renderFrame_of_idle {s : State} (hidle : s.sched.busy = false) :
    exec .renderFrame s = .refused .noFillRunning := by
  rcases execRenderFrame_cases s with ⟨_, h⟩ | ⟨hbusy, _⟩ | ⟨hbusy, _⟩
  · exact h
  · exact absurd (hidle.symm.trans hbusy) Bool.false_ne_true
  · exact absurd (hidle.symm.trans hbusy) Bool.false_ne_true

theorem exec_renderFrame_of_outside {s : State} (hbusy : s.sched.busy = true)
    (hout : s.cfg.bufFrames ≤ s.rend.frameIdx.toNat) : exec .renderFrame s = .fault .bufferWordOutOfRange := by
  rcases execRenderFrame_cases s with ⟨hidle, _⟩ | ⟨_, _, h⟩ | ⟨_, hidx, _⟩
  · exact absurd (hidle.symm.trans hbusy) Bool.false_ne_true
  · exact h
  · exact absurd hout (Nat.not_le.2 hidx)

/-- Settles O23: the two cases in which `RENDER.FRAME` does not answer a next state. -/
theorem frameWithoutAFillIsRefused : Obligations.FrameWithoutAFillIsRefused :=
  fun _ => ⟨exec_renderFrame_of_idle, exec_renderFrame_of_outside⟩

/-! ### A step without an operation (60_exceptions.md R352, 70_reset_and_hazards.md R361) -/

theorem step_of_idle {s : State} (htr : s.trace = []) (hidle : s.sched.busy = false) : step s = .next s := by
  simp [step, fetch, htr, fetchOwn, hidle]

theorem step_of_decode_noStep {s : State} {sig : Signal} {rest : List Signal} (htr : s.trace = sig :: rest)
    (hdec : decode sig = .noStep) : step s = .next (s.setTrace rest) := by
  simp only [step, fetch, htr, fetchSignal, hdec]

theorem step_of_decode_rejected {s : State} {sig : Signal} {rest : List Signal} {why : DecodeError}
    (htr : s.trace = sig :: rest) (hdec : decode sig = .rejected why) : step s = .refused (refusalOf why) := by
  simp only [step, fetch, htr, fetchSignal, hdec]

/-- Settles O2: the render agent's own turn, an entry that is dropped, and an entry that is refused. -/
theorem stepWithoutAnInstruction : Obligations.StepWithoutAnInstruction :=
  fun _ _ _ => ⟨step_of_fill, step_of_idle, step_of_decode_noStep, step_of_decode_rejected, step_of_decode_rejected⟩

/-! ### A legal state never faults (60_exceptions.md R320) -/

section State
variable {s : State} {sig : Signal} {rest after : List Signal} {i : Instr}

/-- Only a frame asks for a running fill, and only a transmit step for a position inside the loop. -/
theorem State.Ok.exec_runs (hs : s.Ok) (hframe : i ≠ .renderFrame) : ∃ t, exec i s = .next t := by
  cases i with
  | renderFrame => exact absurd rfl hframe
  | txFrame => exact ⟨_, exec_txFrame hs.txPos⟩
  | _ => exact ⟨_, rfl⟩

theorem State.Ok.exec_renderFrame_runs (hs : s.Ok) (hbusy : s.sched.busy = true) :
    ∃ t, exec .renderFrame s = .next t :=
  ⟨_, exec_renderFrame hbusy hs.sequencing.index⟩

theorem State.Ok.step_runs_of_decode (hs : s.Ok) (htr : s.trace = sig :: rest)
    (hdec : decode sig = .instr i after) (hframe : i ≠ .renderFrame) : ∃ t, step s = .next t := by
  rw [step_of_fetch_run (fetch_of_decode_instr htr hdec)]
  exact (hs.setTrace _).exec_runs hframe

theorem State.Ok.step_runs_of_nil (hs : s.Ok) (htr : s.trace = []) : ∃ t, step s = .next t := by
  cases hbusy : s.sched.busy with
  | false => exact ⟨_, step_of_idle htr hbusy⟩
  | true =>
    rw [step_of_fill htr hbusy]
    exact hs.exec_renderFrame_runs hbusy

theorem State.Ok.step_frame (hs : s.Ok) (htr : s.trace = .frame :: rest) :
    (∃ t, step s = .next t) ∨ (s.sched.busy = false ∧ step s = .refused .noFillRunning) := by
  rw [step_of_decode htr rfl]
  cases hbusy : s.sched.busy with
  | false => exact .inr ⟨rfl, exec_renderFrame_of_idle hbusy⟩
  | true => exact .inl ((hs.setTrace rest).exec_renderFrame_runs hbusy)

theorem step_host_or_wide {x : Nat} (htr : s.trace = .host x :: rest) :
    (∃ t, step s = .next t) ∨ (2 ^ 41 ≤ x ∧ step s = .refused .wideTransaction) := by
  rcases Nat.lt_or_ge x (2 ^ 41) with hx | hx
  · obtain ⟨t, hstep, _⟩ := step_host htr hx
    exact .inl ⟨t, hstep⟩
  · exact .inr ⟨hx, step_of_decode_rejected htr (if_neg (Nat.not_lt.2 hx))⟩

theorem step_event_or_wide {e : Nat} (htr : s.trace = .event e :: rest) :
    (∃ t, step s = .next t) ∨ (4 ≤ e ∧ step s = .refused .wideEvent) := by
  obtain ⟨_, hevent⟩ := everyHostWordIsAnInstruction
  obtain ⟨_, _, _, _, hwide⟩ := eventWordsDecode
  rcases Nat.lt_or_ge e 4 with he | he
  · rcases hevent e he with ⟨hdec, _⟩ | ⟨i, after, hdec, hruns⟩
    · exact .inl ⟨_, step_of_decode_noStep htr hdec⟩
    · rw [step_of_fetch_run (fetch_of_decode_instr htr hdec)]
      exact .inl (hruns _)
  · exact .inr ⟨he, step_of_decode_rejected htr (hwide e he)⟩

end State

/-- Settles O57: by the head of the trace. -/
theorem legalStatesNeverFault : Obligations.LegalStatesNeverFault := by
  refine ⟨fun s hs => ?_, fun _ _ hs => hs.exec_runs⟩
  cases htr : s.trace with
  | nil => exact .inl (hs.step_runs_of_nil htr)
  | cons sig rest =>
    cases sig with
    | host x => exact (step_host_or_wide htr).imp_right fun hwide => .inr (.inl ⟨x, rest, rfl, hwide⟩)
    | event e => exact (step_event_or_wide htr).imp_right fun hwide => .inr (.inr ⟨e, rest, rfl, hwide⟩)
    | frame => exact (hs.step_frame htr).imp_right fun hidle => .inl ⟨rest, rfl, hidle⟩
    | reset => exact .inl (hs.step_runs_of_decode htr rfl Instr.noConfusion)
    | transmit => exact .inl (hs.step_runs_of_decode htr rfl Instr.noConfusion)

/-! ### Both events at once (60_exceptions.md R331) -/

theorem takeEvent_setTrace (b : Buffer) (tr : List Signal) (s : State) :
    takeEvent b (s.setTrace tr) = (takeEvent b s).setTrace tr := by
  rcases takeEvent_cases b s with ⟨hbusy, h⟩ | ⟨hidle, h⟩ <;> rw [h]
  · exact takeEvent_of_busy (s := s.setTrace tr) hbusy b
  · exact takeEvent_of_idle (s := s.setTrace tr) hidle b

/-- After an event a fill runs, a new one or the one before it. -/
theorem takeEvent_busy (b : Buffer) (s : State) : (takeEvent b s).sched.busy = true := by
  rcases takeEvent_cases b s with ⟨hbusy, h⟩ | ⟨_, h⟩ <;> rw [h]
  · exact hbusy
  · rfl

theorem saturatingCount_toNat_of_lt {n : BitVec 32} (h : n.toNat + 1 < 2 ^ 32) :
    (saturatingCount n).toNat = n.toNat + 1 := by
  rw [saturatingCount_toNat]
  omega

/-- The second event finds the fill of the first, or an older one, still running: an underrun either way. -/
theorem runSteps_bothEvents {s : State} {rest : List Signal} (htr : s.trace = .event 3 :: rest) :
    runSteps 2 s = .next (((takeEvent .B s).setTrace rest).setSched
      (recordUnderrun { (takeEvent .B s).sched with own := .A })) := by
  have hht : step s = .next ((takeEvent .B s).setTrace (.event 2 :: rest)) := by
    rw [← takeEvent_setTrace, step_of_fetch_run (fetch_of_decode_instr htr rfl)]
    rfl
  have htc : step ((takeEvent .B s).setTrace (.event 2 :: rest))
      = .next (takeEvent .A ((takeEvent .B s).setTrace rest)) :=
    step_of_decode (i := .schedTc) (State.setTrace_trace _ _) rfl
  rw [runSteps_succ_of_next hht, runSteps_succ_of_next htc]
  exact congrArg Host.Outcome.next
    (takeEvent_of_busy (s := (takeEvent .B s).setTrace rest) (takeEvent_busy .B s) .A)

/-- Settles O58: `HT` starts a fill or records an underrun, `TC` then records one. -/
theorem simultaneousEventsAreAnUnderrun : Obligations.SimultaneousEventsAreAnUnderrun := by
  intro s rest htr hcount
  refine ⟨_, runSteps_bothEvents htr, rfl, rfl, takeEvent_busy .B s, rfl, fun hidle => ?_, fun hbusy => ?_⟩
  · rw [takeEvent_of_idle hidle]
    exact ⟨rfl, saturatingCount_toNat_of_lt (Nat.lt_of_succ_lt hcount)⟩
  · have honce := saturatingCount_toNat_of_lt (Nat.lt_of_succ_lt hcount)
    have htwice : (saturatingCount (saturatingCount s.sched.underrunCount)).toNat
        = s.sched.underrunCount.toNat + 2 := by
      rw [saturatingCount_toNat_of_lt (by omega), honce]
    rw [takeEvent_of_busy hbusy]
    exact ⟨rfl, htwice⟩

end Sys2Proof.Machine
